-- ==== Sys2Proof/Word.lean ====
section
/-! DEFINITION. The words of the block: every datum is one byte or less (20_memory R46). -/

namespace Sys2Proof

/-- A received byte, a Control Byte, a cell of a memory: 8 unsigned bits, bit 0 the least (00_scope R3). -/
abbrev Byte := BitVec 8

/-- A Resistance Setting in hardware: `SETTING_W` = 4 bits (92_eei_decisions D3). -/
abbrev Setting := BitVec 4

/-- A one-bit field or a pin level: `true` is 1, high. -/
abbrev Level := Bool

end Sys2Proof
end

