-- ==== Sys2Proof/Config.lean ====
section
/-! DEFINITION. What is fixed for the block (00_scope R3), the parameters the spec leaves open (00_scope R4) and the
free values of what it calls unspecified. -/

namespace Sys2Proof.Config

/-- `SETTING_MAX`; the least setting is 0 (R3). -/
def settingMax : Nat := 10

/-- `CR`, the carriage-return byte (R3). -/
def cr : Byte := 0x0D

/-- `TABLE`, indexed 0 to 10 (20_memory R41). It is the normative mapping, not the formula (90_conflicts C1). -/
def table : List Byte :=
  [0, 26, 51, 77, 102, 128, 154, 179, 205, 230, 255]

/-- `PROMPT`, 21 bytes, no terminator (30_encoding R72, 20_memory R42). -/
def prompt : List Byte :=
  [0x0A, 0x0D, 0x20, 0x52, 0x65, 0x73, 0x69] ++ [0x73, 0x74, 0x61, 0x6E, 0x63, 0x65, 0x20] ++
  [0x78, 0x20, 0x31, 0x30, 0x6B, 0x3A, 0x20]

/-- `INVALID_MSG`, 21 bytes, no terminator (30_encoding R72, 20_memory R42). -/
def invalidMsg : List Byte :=
  [0x20, 0x20, 0x2A, 0x2A, 0x20, 0x49, 0x6E] ++ [0x76, 0x61, 0x6C, 0x69, 0x64, 0x20, 0x65] ++
  [0x6E, 0x74, 0x72, 0x79, 0x20, 0x2A, 0x2A]

/-- Parity of a serial frame. -/
inductive Parity where
  | none
  | even
  | odd
deriving DecidableEq, Repr

/-- The format of the terminal link (30_encoding R70, 10_state R32). -/
structure SerialFormat where
  dataBits : Nat
  parity : Parity
  stopBits : Nat
  flowControl : Bool
deriving DecidableEq, Repr

/-- `FRAME`: 8N1, no flow control (R3). -/
def frame : SerialFormat := ⟨8, .none, 1, false⟩

/-- `BAUD` (R3). -/
def baud : Nat := 9600

/-- `SPI_CPOL`, the resting level of the bus clock: open (92_eei_decisions D12). -/
opaque spiCpol : Level

/-- `SPI_CPHA`, the phase of the bus clock: fixed, but open (D12). -/
opaque spiCpha : Level

/-- `SCLK_DIV`, the divider of the bus clock: open, no rule depends on it (D13). -/
opaque sclkDiv : Nat

/-- `F_SYS`, the system clock: open, no rule depends on it (D13). -/
opaque fSys : Nat

/-- The period of `SCLK`, `SCLK_DIV / F_SYS` seconds, both open (41_spi_driver R130). No rule depends on it. -/
def sclkPeriod : Rat := (sclkDiv : Rat) / (fSys : Rat)

/-- The time of the eight clock periods of a transfer (70_reset_and_hazards R201). No rule depends on it. -/
def transferTime : Rat := 8 * sclkPeriod

/-- FREE VALUE: the level of `MOSI` outside a transfer, which 10_state R28 leaves unspecified, at the tick given. -/
opaque freeMosi : Nat → Level

/-- The fields `Reset(false)` leaves unspecified (10_state R37): all but the phase, the logs and FAULT. -/
inductive OpenField where
  | psStage | psValue | cbCount | cbB0 | cbB1 | lrb | rxp | seqIdx | drvStep | drvCb | csn | loop | eng
  | txReg | rxsh | shcnt | done | mosi | sclk
deriving DecidableEq, Repr

/-- FREE VALUE: what a field holds after `Reset(false)` (10_state R37, 60_exceptions R178), as a number the field
takes modulo its own range. -/
opaque halted : Nat → OpenField → Nat

end Sys2Proof.Config
end

