-- ==== Sys2Proof/Machine/State.lean ====
section
/-! DEFINITION. The state of the block as plain data (10_state R10), its value after reset (R37), and the reasons a
step can stop. -/

namespace Sys2Proof.Machine

/-- `PS.stage`, the Parser State without its payload (10_state R12). -/
inductive Stage where
  | await1
  | await2
  | resolved
  | invalid
deriving DecidableEq, Repr

/-- `SEQ.phase`, what stands for a program counter (10_state R16). -/
inductive Phase where
  | halted
  | prompt
  | idle
  | dispatch
  | apply
  | invmsg
deriving DecidableEq, Repr

/-- `DRV.step`, the next driver micro-step, 0 to 9 in this order (10_state R17). -/
inductive DrvStep where
  | lookup
  | csAssert
  | loopOn
  | engStart
  | txWrite
  | waitDone
  | discard
  | engStop
  | loopOff
  | csDeassert
deriving DecidableEq, Repr

/-- What `SPILOG` records (41_spi_driver R128). -/
inductive BusEvent where
  /-- `CsLow`: chip-select goes from high to low. -/
  | csLow
  /-- `Bit(k, v)`: bit `k` of `TXREG`, value `v`, on `MOSI` with its clock pulse. -/
  | bit (k : Fin 8) (v : Level)
  /-- `CsHigh`: chip-select goes from low to high. -/
  | csHigh
deriving DecidableEq, Repr

/-- The four address spaces, all byte-wide (20_memory R40). -/
inductive Space where
  | table
  | prompt
  | invalidMsg
  | cell
deriving DecidableEq, Repr

/-- The reasons `raise Fault(reason)` can add to FAULT (10_state R30). -/
inductive FaultReason where
  /-- `apply` with a setting above 10, or a read outside a space (60_exceptions R179, 20_memory R58). -/
  | contractViolation
  /-- A byte delivered while the block is busy (60_exceptions R180). -/
  | rxOverrun
  /-- A write of the bus peripheral outside the driver's order (60_exceptions R181). -/
  | engineMisuse
deriving DecidableEq, Repr

/-- `FAULT`, a set of reasons (10_state R30): one bit for each, so that equal sets are equal data. -/
structure FaultSet where
  contractViolation : Bool
  rxOverrun : Bool
  engineMisuse : Bool
deriving DecidableEq, Repr

/-- The cause of the exception `Invalid` (60_exceptions R170). No register holds it. -/
inductive InvalidCause where
  | invFirst
  | invSecond
deriving DecidableEq, Repr

/-- One turn of the schedule, the model's own input (10_state R34): what ENV does, or which agent of the block moves. -/
inductive Turn where
  /-- ENV delivers `RxByte(b)` now, whatever the state (42_sequencer_transport R141). -/
  | rxByte (b : Byte)
  /-- ENV keeps the hazard rule (70_reset_and_hazards R194): it delivers `RxByte(b)` once the block is quiescent; until
  then the block moves and the turn stays. -/
  | rxWhenReady (b : Byte)
  /-- `Reset(init_ok)` (70_reset_and_hazards R190). -/
  | reset (initOk : Bool)
  /-- ENV keeps the transmit buffer full for the next `n` steps (42_sequencer_transport R144). -/
  | txHold (n : Nat)
  /-- MAIN's turn. -/
  | main
  /-- ENGINE's turn. -/
  | engine
deriving DecidableEq, Repr

/-- `PS`: the stage and the digit accumulator (10_state R12, R13). -/
structure ParserState where
  stage : Stage
  value : Setting
deriving DecidableEq, Repr

/-- `CB`, the Command Buffer (10_state R14). -/
structure CommandBuffer where
  count : Fin 3
  b0 : Byte
  b1 : Byte
deriving DecidableEq, Repr

/-- `SEQ`, the control state of MAIN (10_state R16). -/
structure Sequencer where
  phase : Phase
  idx : Fin 22
deriving DecidableEq, Repr

/-- `DRV`, the driver's micro-step and its latch (10_state R17, R18). -/
structure Driver where
  step : DrvStep
  cb : Byte
deriving DecidableEq, Repr

/-- The model's own fields, not the spec's: the schedule of turns still to come, oldest first; for how many steps the
transmit buffer stays full (`tx_free` is 0 of them, 10_state R33); the tick at which free values are taken. -/
structure Env where
  turns : List Turn
  txWait : Nat
  freeTick : Nat
deriving DecidableEq, Repr

/-- The state of the block: the fields of 10_state R10, and `env`. -/
structure State where
  /-- PS -/
  ps : ParserState
  /-- CB -/
  cb : CommandBuffer
  /-- LRB, the last received byte, the one cell of space CELL (R15) -/
  lrb : Byte
  /-- RXP, receive pending (R19) -/
  rxp : Bool
  /-- SEQ -/
  seq : Sequencer
  /-- DRV -/
  drv : Driver
  /-- CSN, the level of the chip-select pin; low selects the device (R22) -/
  csn : Level
  /-- LOOP, loopback enable (R23) -/
  loop : Bool
  /-- ENG, run bit of the bus engine (R24) -/
  eng : Bool
  /-- TXREG (R25) -/
  txReg : Byte
  /-- RXSH, the received shadow byte (R26) -/
  rxsh : Byte
  /-- SHCNT, bits shifted; 8 when no transfer is in progress (R27) -/
  shcnt : Fin 9
  /-- DONE, transfer complete (R20) -/
  done : Bool
  /-- MOSI, what ENGINE last drove (R28); the level of the pin is `mosiLevel` -/
  mosi : Level
  /-- SCLK (R28) -/
  sclk : Level
  /-- TXLOG (R29) -/
  txLog : List Byte
  /-- SPILOG (R29) -/
  spiLog : List BusEvent
  /-- FAULT (R30) -/
  fault : FaultSet
  /-- the model's own: ENV and the schedule -/
  env : Env
deriving DecidableEq, Repr

/-- Why a step stops with a fault. -/
inductive Fault where
  /-- FAULT is not empty, so no agent has a step (10_state R30): answered by `step` on a turn of the block, with the
  reasons raised. SAFE: the spec stops every agent there and makes no claim about the hardware. -/
  | stopped (reasons : FaultSet)
deriving DecidableEq, Repr

/-- Why a step is refused. -/
inductive Refusal where
  /-- An instruction that has no meaning yet, answered by `exec` alone. SAFE. -/
  | notModelled (mnemonic : String)
  /-- `ParserStep` in stage RESOLVED or INVALID, where 40_parser R95 gives it no meaning: answered by the byte
  classes and by the wake step. Never reached from reset. SAFE. -/
  | parserTerminal
  /-- A byte class of one format in the stage of the other, which selects no such class (30_encoding R61, 40_parser
  R80): answered by the byte classes. The wake step never asks for it. SAFE. -/
  | wrongFormat
  /-- DISPATCH in stage AWAIT1, which 42_sequencer_transport R150 makes a refusal: answered by MAIN's dispatch step.
  Never reached from reset. SAFE. -/
  | dispatchAwait1
deriving DecidableEq, Repr

/-- No reason raised. -/
def FaultSet.empty : FaultSet := ⟨false, false, false⟩

/-- The state after `Reset(true)` (10_state R37, 70_reset_and_hazards R190). The fields R37 leaves unspecified hold 0:
DESIGN CHOICE, log entry 1. -/
def State.reset : State where
  ps := ⟨.await1, 0⟩
  cb := ⟨0, 0, 0⟩
  lrb := 0
  rxp := false
  seq := ⟨.prompt, 0⟩
  drv := ⟨.lookup, 0⟩
  csn := true
  loop := false
  eng := false
  txReg := 0
  rxsh := 0
  shcnt := 8
  done := false
  mosi := false
  sclk := Config.spiCpol
  txLog := []
  spiLog := []
  fault := FaultSet.empty
  env := ⟨[], 0, 0⟩

def State.setPs (s : State) (v : ParserState) : State := { s with ps := v }
def State.setCb (s : State) (v : CommandBuffer) : State := { s with cb := v }
def State.setLrb (s : State) (v : Byte) : State := { s with lrb := v }
def State.setRxp (s : State) (v : Bool) : State := { s with rxp := v }
def State.setSeq (s : State) (v : Sequencer) : State := { s with seq := v }
def State.setDrv (s : State) (v : Driver) : State := { s with drv := v }
def State.setCsn (s : State) (v : Level) : State := { s with csn := v }
def State.setLoop (s : State) (v : Bool) : State := { s with loop := v }
def State.setEng (s : State) (v : Bool) : State := { s with eng := v }
def State.setTxReg (s : State) (v : Byte) : State := { s with txReg := v }
def State.setRxsh (s : State) (v : Byte) : State := { s with rxsh := v }
def State.setShcnt (s : State) (v : Fin 9) : State := { s with shcnt := v }
def State.setDone (s : State) (v : Bool) : State := { s with done := v }
def State.setMosi (s : State) (v : Level) : State := { s with mosi := v }
def State.setSclk (s : State) (v : Level) : State := { s with sclk := v }
def State.setTxLog (s : State) (v : List Byte) : State := { s with txLog := v }
def State.setSpiLog (s : State) (v : List BusEvent) : State := { s with spiLog := v }
def State.setFault (s : State) (v : FaultSet) : State := { s with fault := v }
def State.setEnv (s : State) (v : Env) : State := { s with env := v }

end Sys2Proof.Machine
end

