-- ==== Sys2Proof/Machine/Flags.lean ====
section
/-! DEFINITION. The two status flags of the block, RXP and DONE: what sets and clears each (10_state R19, R20, R21).
There are no condition codes. -/

namespace Sys2Proof.Machine

/-- ISR raises the wake signal (10_state R19). -/
def raiseRxp (s : State) : State := s.setRxp true

/-- MAIN consumes the wake signal (10_state R19). -/
def clearRxp (s : State) : State := s.setRxp false

/-- DONE after ENGINE's step with `n` bits sent before: the eighth sets it (10_state R20, 41_spi_driver R118). -/
def doneAfterBit (n : Nat) (s : State) : Bool := s.done || decide (n = 7)

/-- MAIN's write of `TXREG` and its read of `RXSH` clear the flag (10_state R20). -/
def clearDone (s : State) : State := s.setDone false

end Sys2Proof.Machine
end

