-- ==== Sys2Proof/Syntax.lean ====
section
/-! DEFINITION. The instructions of the block: the fourteen byte classes of opcode_table.json
(30_encoding R64, R65, R74). -/

namespace Sys2Proof

/-- The two byte formats (30_encoding R61): `f1` a first byte, consumed in AWAIT1; `f2` a second byte, consumed in
AWAIT2. The byte carries no mark of its format. -/
inductive Format where
  | f1
  | f2
deriving DecidableEq, Repr

/-- The byte classes. A class that selects one byte value has no operand; the two default classes carry the byte they
were read from, which the Command Buffer records (40_parser R96). -/
inductive Instr where
  /-- `'0'` as a first byte (R81). -/
  | set0
  /-- `'1'` as a first byte (R82). -/
  | pfx1
  /-- `'2'` (R83). -/
  | set2
  /-- `'3'` (R84). -/
  | set3
  /-- `'4'` (R85). -/
  | set4
  /-- `'5'` (R86). -/
  | set5
  /-- `'6'` (R87). -/
  | set6
  /-- `'7'` (R88). -/
  | set7
  /-- `'8'` (R89). -/
  | set8
  /-- `'9'` (R90). -/
  | set9
  /-- Any first byte that is no digit (R91). -/
  | inv1 (b : Byte)
  /-- `'0'` as a second byte (R92). -/
  | set10
  /-- Carriage return as a second byte (R93). -/
  | set1
  /-- Any other second byte (R94). -/
  | inv2 (b : Byte)
deriving DecidableEq, Repr

end Sys2Proof
end

