-- ==== Sys2Proof/WellFormed.lean ====
section
/-! DEFINITION. Which terms of `Instr` stand for a byte class: a default class carries a byte that no other row of its
format selects (30_encoding R64, R65, R74). -/

namespace Sys2Proof

/-- The digit bytes, 0x30 to 0x39, both ends included (30_encoding R62; compared unsigned, 40_parser R98). -/
def isDigit (b : Byte) : Bool := 0x30#8 ≤ b && b ≤ 0x39#8

/-- No well-formed `inv1` carries a digit; no well-formed `inv2` carries `'0'` or the carriage return. -/
def wellFormed : Instr → Bool
  | .inv1 b => !isDigit b
  | .inv2 b => b != 0x30 && b != Config.cr
  | .set0 => true
  | .pfx1 => true
  | .set2 => true
  | .set3 => true
  | .set4 => true
  | .set5 => true
  | .set6 => true
  | .set7 => true
  | .set8 => true
  | .set9 => true
  | .set10 => true
  | .set1 => true

end Sys2Proof
end

