-- ==== Sys2Proof/Decode.lean ====
section
/-! DEFINITION. From bytes to instructions and back (30_encoding R60 to R67, R73, R74). -/

namespace Sys2Proof

/-- Why bytes give no instruction: there is none to read. Every byte that is there decodes (30_encoding R60). -/
inductive DecodeError where
  | noByte
deriving DecidableEq, Repr

/-- One row of opcode_table.json that is no default row (30_encoding R74). -/
structure OpcodeRow where
  format : Format
  mask : Byte
  pattern : Byte
  instr : Instr
deriving DecidableEq, Repr

/-- The twelve rows that select one byte value each (30_encoding R64, R65). -/
def opcodeRows : List OpcodeRow :=
  [⟨.f1, 0xFF, 0x30, .set0⟩, ⟨.f1, 0xFF, 0x31, .pfx1⟩, ⟨.f1, 0xFF, 0x32, .set2⟩, ⟨.f1, 0xFF, 0x33, .set3⟩] ++
  [⟨.f1, 0xFF, 0x34, .set4⟩, ⟨.f1, 0xFF, 0x35, .set5⟩, ⟨.f1, 0xFF, 0x36, .set6⟩, ⟨.f1, 0xFF, 0x37, .set7⟩] ++
  [⟨.f1, 0xFF, 0x38, .set8⟩, ⟨.f1, 0xFF, 0x39, .set9⟩, ⟨.f2, 0xFF, 0x30, .set10⟩, ⟨.f2, 0xFF, 0x0D, .set1⟩]

/-- The row selects the byte: it is of the format and `(b & mask) = match` (30_encoding R74). -/
def rowSelects (f : Format) (b : Byte) (r : OpcodeRow) : Bool :=
  decide (r.format = f) && (b &&& r.mask) == r.pattern

/-- The default row of a format: `INV1` or `INV2` (30_encoding R74). -/
def defaultInstr : Format → Byte → Instr
  | .f1, b => .inv1 b
  | .f2, b => .inv2 b

/-- The decoder of 30_encoding R74: the row that selects the byte, else the default row. Total (R60). -/
def decodeByte (f : Format) (b : Byte) : Instr :=
  match opcodeRows.find? (rowSelects f b) with
  | some r => r.instr
  | none => defaultInstr f b

/-- One instruction off the front of the bytes, in the format the parser stage selects. -/
def decode : Format → List Byte → Except DecodeError (Instr × List Byte)
  | _, [] => .error .noByte
  | f, b :: rest => .ok (decodeByte f b, rest)

/-- The format an instruction is read in (30_encoding R64, R65). -/
def instrFormat : Instr → Format
  | .set0 => .f1
  | .pfx1 => .f1
  | .set2 => .f1
  | .set3 => .f1
  | .set4 => .f1
  | .set5 => .f1
  | .set6 => .f1
  | .set7 => .f1
  | .set8 => .f1
  | .set9 => .f1
  | .inv1 _ => .f1
  | .set10 => .f2
  | .set1 => .f2
  | .inv2 _ => .f2

/-- The byte of an instruction (30_encoding R64, R65). -/
def encode : Instr → Byte
  | .set0 => 0x30
  | .pfx1 => 0x31
  | .set2 => 0x32
  | .set3 => 0x33
  | .set4 => 0x34
  | .set5 => 0x35
  | .set6 => 0x36
  | .set7 => 0x37
  | .set8 => 0x38
  | .set9 => 0x39
  | .inv1 b => b
  | .set10 => 0x30
  | .set1 => 0x0D
  | .inv2 b => b

/-- The format of the byte that follows: the length of a command is decided by its first byte alone
(30_encoding R73), and a consumed byte is never parsed again (R67). -/
def formatAfter : Instr → Format
  | .pfx1 => .f2
  | .set0 => .f1
  | .set2 => .f1
  | .set3 => .f1
  | .set4 => .f1
  | .set5 => .f1
  | .set6 => .f1
  | .set7 => .f1
  | .set8 => .f1
  | .set9 => .f1
  | .inv1 _ => .f1
  | .set10 => .f1
  | .set1 => .f1
  | .inv2 _ => .f1

/-- The instructions of a stream of bytes, from the format the first is read in (30_encoding R61, R67, R73). -/
def decodeStream : Format → List Byte → List Instr
  | _, [] => []
  | f, b :: rest => decodeByte f b :: decodeStream (formatAfter (decodeByte f b)) rest

/-- The bytes of a list of instructions. -/
def encodeStream (is : List Instr) : List Byte := is.map encode

/-- The list is one the parser can be led through: each instruction well formed and of the format that the one before
leaves (30_encoding R61, R73). -/
def isCommandStream : Format → List Instr → Bool
  | _, [] => true
  | f, i :: rest => decide (instrFormat i = f) && wellFormed i && isCommandStream (formatAfter i) rest

/-- A format has a row of its own for the byte, not its default row. -/
def hasOwnRow (f : Format) (b : Byte) : Bool := opcodeRows.any (rowSelects f b)

/-- The format a word of the opcode table is read in. The word does not carry it (30_encoding R61), so it is taken from
the table: the format that has a row of its own for the byte, F1 first; and 0x30, which has one in both, is F2 where the
word is longer than a byte, which the reader's table gives SET10 and not SET0. DESIGN CHOICE, log entry 11. -/
def tableFormat (nbits w : Nat) : Format :=
  let b := BitVec.ofNat 8 w
  if b = 0x30 then (if 8 < nbits then .f2 else .f1)
  else if hasOwnRow .f1 b then .f1
  else if hasOwnRow .f2 b then .f2
  else .f1

/-- The bytes of a word of the opcode table, the first its low byte. -/
def tableWordBytes (nbits w : Nat) : List Byte :=
  (List.range ((nbits + 7) / 8)).map fun k => BitVec.ofNat 8 (w / 2 ^ (8 * k))

/-- The instruction the decoder reads from a word of the opcode table: the first byte is the instruction, in the format
`tableFormat` finds. -/
def decodeTableWord (nbits w : Nat) : Option Instr :=
  match decode (tableFormat nbits w) (tableWordBytes nbits w) with
  | .ok (i, _) => some i
  | .error _ => none

end Sys2Proof
end

