-- ==== Sys2Proof/Machine/Operands.lean ====
section
/-! DEFINITION. The operand forms: a byte's fields and the digit it spells (30_encoding R62, R63), the format a stage
selects (R61), an index into a read-only space (20_memory R40 to R42, R58), one bit of a byte (20_memory R44). -/

namespace Sys2Proof.Machine

/-- The field `zone`, bits 7 to 4 of a byte (30_encoding R62). -/
def zone (b : Byte) : BitVec 4 := b.extractLsb' 4 4

/-- The field `digit`, bits 3 to 0 of a byte (30_encoding R62). -/
def digitField (b : Byte) : BitVec 4 := b.extractLsb' 0 4

/-- The immediate of a digit byte, `trunc_4(b - 0x30)` (30_encoding R62, 40_parser R83 to R90, R98). -/
def digitValue (b : Byte) : Setting := (b - 0x30#8).setWidth 4

/-- The format a stage reads a byte in; a terminal stage reads none (30_encoding R61, 40_parser R95). -/
def stageFormat : Stage → Option Format
  | .await1 => some .f1
  | .await2 => some .f2
  | .resolved => none
  | .invalid => none

/-- The binary encoding of a stage that 92_eei_decisions D4 suggests. No rule depends on it. -/
def stageCode : Stage → BitVec 2
  | .await1 => 0b00
  | .await2 => 0b01
  | .resolved => 0b10
  | .invalid => 0b11

/-- The number of a cause of `Invalid` (60_exceptions R170, 92_eei_decisions D19). No register holds it. -/
def causeCode : InvalidCause → Nat
  | .invFirst => 1
  | .invSecond => 2

/-- The number of a driver micro-step, 0 to 9 (10_state R17). -/
def stepIndex : DrvStep → Nat
  | .lookup => 0
  | .csAssert => 1
  | .loopOn => 2
  | .engStart => 3
  | .txWrite => 4
  | .waitDone => 5
  | .discard => 6
  | .engStop => 7
  | .loopOff => 8
  | .csDeassert => 9

/-- A cell of a read-only space, or the fault of an index that has none (20_memory R58). -/
def romRead (cells : List Byte) (i : Nat) : Except FaultReason Byte :=
  match cells[i]? with
  | some b => .ok b
  | none => .error .contractViolation

/-- `TableRead(i)` (20_memory R41, R58). -/
def tableRead (i : Nat) : Except FaultReason Byte := romRead Config.table i

/-- `StrRead(PROMPT, i)` (20_memory R42, R58). -/
def promptRead (i : Nat) : Except FaultReason Byte := romRead Config.prompt i

/-- `StrRead(INVALID_MSG, i)` (20_memory R42, R58). -/
def invalidMsgRead (i : Nat) : Except FaultReason Byte := romRead Config.invalidMsg i

/-- `MemRead(space, a, 1)`: the cell of a space, or the fault of an address that has none (20_memory R40, R43, R58).
Reading has no side effect (R48). -/
def memRead (sp : Space) (a : Nat) (s : State) : Except FaultReason Byte :=
  match sp with
  | .table => tableRead a
  | .prompt => promptRead a
  | .invalidMsg => invalidMsgRead a
  | .cell => romRead [s.lrb] a

/-- `v[k]` (00_scope, notation). -/
def byteBit (v : Byte) (k : Fin 8) : Level := v.getLsbD k.val

/-- `v[k] <- x`: one bit written, the others kept. -/
def setByteBit (v : Byte) (k : Fin 8) (x : Level) : Byte :=
  if x then v ||| (1#8 <<< k.val) else v &&& ~~~(1#8 <<< k.val)

/-- The bit a transfer sends when `n` bits have been sent, `7 - n`: most significant first (20_memory R44). -/
def bitIndex (n : Nat) : Fin 8 := ⟨7 - n, by omega⟩

end Sys2Proof.Machine
end

