-- ==== Sys2Proof/Machine/Ops.lean ====
section
/-! DEFINITION. The named operations: outcomes, faults, output, the parser's writes, taking and leaving an exception,
the bus peripheral's registers, reset. -/

namespace Sys2Proof.Machine

/-- What a step answers. -/
abbrev Result := Host.Outcome State Fault Refusal

/-- A change made to the next state, if there is one. -/
def mapNext (f : State → State) : Result → Result
  | .next s => .next (f s)
  | .fault r => .fault r
  | .refused r => .refused r

/-- The set with a reason added. -/
def addReason (r : FaultReason) (f : FaultSet) : FaultSet :=
  match r with
  | .contractViolation => { f with contractViolation := true }
  | .rxOverrun => { f with rxOverrun := true }
  | .engineMisuse => { f with engineMisuse := true }

/-- `raise Fault(reason)`: the reason is added to FAULT; every agent stops from then on (10_state R30). -/
def raise (r : FaultReason) (s : State) : State := s.setFault (addReason r s.fault)

/-- The next state of an operation that may raise instead: a fault leaves all else as it was. -/
def orRaise (s : State) : Except FaultReason State → Result
  | .ok t => .next t
  | .error r => .next (raise r s)

/-- `tx_free`: ENV has left room in the transmit buffer (10_state R33, 42_sequencer_transport R144). -/
def txFree (s : State) : Bool := s.env.txWait == 0

/-- `Tx(b)`: the byte is enqueued (00_scope, notation; 10_state R29). -/
def tx (b : Byte) (s : State) : State := s.setTxLog (s.txLog ++ [b])

/-- `Spi(e)`: the bus event happens (00_scope, notation; 10_state R29). -/
def spi (e : BusEvent) (s : State) : State := s.setSpiLog (s.spiLog ++ [e])

/-- `MemWrite(CELL, 0, 1, b)`, the one writable cell (20_memory R43). -/
def cellWrite (b : Byte) (s : State) : State := s.setLrb b

/-- Control transfer: `SEQ.phase <- p; SEQ.idx <- 0`. -/
def enter (p : Phase) (s : State) : State := s.setSeq ⟨p, 0⟩

/-- The control state's phase alone is written. -/
def setPhase (p : Phase) (s : State) : State := s.setSeq { s.seq with phase := p }

/-- `DRV.step <- k`. -/
def goStep (k : DrvStep) (s : State) : State := s.setDrv { s.drv with step := k }

/-- The first byte of a command goes into the Command Buffer (40_parser R96). -/
def recordFirst (b : Byte) (s : State) : State := s.setCb { s.cb with b0 := b, count := 1 }

/-- The second byte of a command goes into the Command Buffer (40_parser R96). -/
def recordSecond (b : Byte) (s : State) : State := s.setCb { s.cb with b1 := b, count := 2 }

/-- The parser resolves a setting: `PS.value <- v; PS.stage <- RESOLVED` (40_parser R81, R83 to R90, R92, R93). -/
def resolve (v : Setting) (s : State) : State := s.setPs ⟨.resolved, v⟩

/-- The parser waits for a second byte: `PS.value <- v; PS.stage <- AWAIT2` (40_parser R82). -/
def awaitSecond (v : Setting) (s : State) : State := s.setPs ⟨.await2, v⟩

/-- TAKING THE EXCEPTION `Invalid(cause)`: `PS.stage <- INVALID` and nothing else; the cause is a label no register
holds (60_exceptions R170, R171). -/
def raiseInvalid (_cause : InvalidCause) (s : State) : State := s.setPs { s.ps with stage := .invalid }

/-- Entry to the handler of `Invalid`: `SEQ.phase <- INVMSG; SEQ.idx <- 0`; nothing is saved (60_exceptions R175). -/
def enterInvalid (s : State) : State := enter .invmsg s

/-- Return from the handler of `Invalid`: to the prompt; nothing is restored (60_exceptions R176). -/
def leaveInvalid (s : State) : State := enter .prompt s

/-- TAKING THE INTERRUPT, ISR's whole body: the echo, then `LRB <- b`, then `RXP <- 1`; nothing else of the block is
saved or changed, and raising RXP is the return (20_memory R51; 42_sequencer_transport R142, R143; 60_exceptions R175,
R176). -/
def takeInterrupt (b : Byte) (s : State) : State := raiseRxp (cellWrite b (tx b s))

/-- `ParserRestart`: `PS.stage <- AWAIT1; CB.count <- 0`; the other bits are kept (40_parser R99). -/
def parserRestart (s : State) : State :=
  (s.setPs { s.ps with stage := .await1 }).setCb { s.cb with count := 0 }

/-- A byte class of format F1: the byte is recorded, then the class acts; outside AWAIT1 no such class is selected
(40_parser R80, R95, R96). -/
def firstByte (b : Byte) (act : State → State) (s : State) : Result :=
  match s.ps.stage with
  | .await1 => .next (act (recordFirst b s))
  | .await2 => .refused .wrongFormat
  | .resolved => .refused .parserTerminal
  | .invalid => .refused .parserTerminal

/-- A byte class of format F2: the byte is recorded, then the class acts; outside AWAIT2 no such class is selected
(40_parser R80, R95, R96). -/
def secondByte (b : Byte) (act : State → State) (s : State) : Result :=
  match s.ps.stage with
  | .await1 => .refused .wrongFormat
  | .await2 => .next (act (recordSecond b s))
  | .resolved => .refused .parserTerminal
  | .invalid => .refused .parserTerminal

/-- A transfer is in progress: `SHCNT < 8` (10_state R27). -/
def inTransfer (s : State) : Bool := decide (s.shcnt.val < 8)

/-- `CSN <- 0; Spi(CsLow)` (41_spi_driver R112). -/
def assertCs (s : State) : State := spi .csLow (s.setCsn false)

/-- `CSN <- 1; Spi(CsHigh)` (41_spi_driver R122). -/
def deassertCs (s : State) : State := spi .csHigh (s.setCsn true)

/-- `LOOP <- v`; clearing it during a transfer is misuse (41_spi_driver R113, R121, R131). -/
def writeLoop (v : Bool) (s : State) : Except FaultReason State :=
  if !v && inTransfer s then .error .engineMisuse else .ok (s.setLoop v)

/-- `ENG <- v`; clearing it during a transfer is misuse (41_spi_driver R114, R120, R131). -/
def writeEng (v : Bool) (s : State) : Except FaultReason State :=
  if !v && inTransfer s then .error .engineMisuse else .ok (s.setEng v)

/-- The write of `TXREG`, which starts a transfer: `SHCNT <- 0; DONE <- 0`; with the engine stopped or a transfer in
progress it is misuse (41_spi_driver R115, R131). -/
def writeTxReg (b : Byte) (s : State) : Except FaultReason State :=
  if !s.eng || inTransfer s then .error .engineMisuse
  else .ok (clearDone ((s.setTxReg b).setShcnt 0))

/-- The read of `RXSH`, which clears DONE (41_spi_driver R119, 20_memory R48). -/
def readRxsh (s : State) : Byte × State := (s.rxsh, clearDone s)

/-- `configure(baud, frame)`: one-time setup; it fails only if initialisation is impossible, which is the argument
`init_ok` of reset (42_sequencer_transport R154). Its register writes are out of scope (00_scope R2). -/
def configure (_baud : Nat) (_frame : Config.SerialFormat) (initOk : Bool) : Bool := initOk

/-- A free value, as a stage. -/
def stageOfNat (n : Nat) : Stage :=
  match n % 4 with
  | 0 => .await1
  | 1 => .await2
  | 2 => .resolved
  | _ => .invalid

/-- A free value, as a driver micro-step. -/
def drvStepOfNat (n : Nat) : DrvStep :=
  match n % 10 with
  | 0 => .lookup
  | 1 => .csAssert
  | 2 => .loopOn
  | 3 => .engStart
  | 4 => .txWrite
  | 5 => .waitDone
  | 6 => .discard
  | 7 => .engStop
  | 8 => .loopOff
  | _ => .csDeassert

/-- The state after `Reset(false)`: `SEQ.phase = HALTED`, both logs empty, FAULT empty, every other field a free value
(10_state R37, 60_exceptions R178); log entry 4. ENV's own fields stay. -/
def haltedState (e : Env) : State :=
  let free := Config.halted e.freeTick
  { ps := ⟨stageOfNat (free .psStage), BitVec.ofNat 4 (free .psValue)⟩
    cb := ⟨Fin.ofNat 3 (free .cbCount), BitVec.ofNat 8 (free .cbB0), BitVec.ofNat 8 (free .cbB1)⟩
    lrb := BitVec.ofNat 8 (free .lrb)
    rxp := free .rxp % 2 == 1
    seq := ⟨.halted, Fin.ofNat 22 (free .seqIdx)⟩
    drv := ⟨drvStepOfNat (free .drvStep), BitVec.ofNat 8 (free .drvCb)⟩
    csn := free .csn % 2 == 1
    loop := free .loop % 2 == 1
    eng := free .eng % 2 == 1
    txReg := BitVec.ofNat 8 (free .txReg)
    rxsh := BitVec.ofNat 8 (free .rxsh)
    shcnt := Fin.ofNat 9 (free .shcnt)
    done := free .done % 2 == 1
    mosi := free .mosi % 2 == 1
    sclk := free .sclk % 2 == 1
    txLog := []
    spiLog := []
    fault := FaultSet.empty
    env := e }

/-- `Reset(init_ok)`, in any state: all state is dropped, the block is configured, and either every field has its reset
value or the block is halted (70_reset_and_hazards R190, R191, R203). -/
def resetEvent (initOk : Bool) (s : State) : State :=
  if configure Config.baud Config.frame initOk then State.reset.setEnv s.env else haltedState s.env

end Sys2Proof.Machine
end

