-- ==== Sys2Proof/Machine/Parser.lean ====
section
/-! DEFINITION. The meanings of the fourteen byte classes (40_parser R81 to R94), each a line over the shared
operations of Machine/Ops.lean. None of them touches the bus, the terminal or a flag. -/

namespace Sys2Proof.Machine

/-- `SET0` (40_parser R81). -/
def execSet0 (s : State) : Result := firstByte 0x30 (resolve 0) s

/-- `PFX1` (40_parser R82). -/
def execPfx1 (s : State) : Result := firstByte 0x31 (awaitSecond 1) s

/-- `SET2` (40_parser R83). -/
def execSet2 (s : State) : Result := firstByte 0x32 (resolve (digitValue 0x32)) s

/-- `SET3` (40_parser R84). -/
def execSet3 (s : State) : Result := firstByte 0x33 (resolve (digitValue 0x33)) s

/-- `SET4` (40_parser R85). -/
def execSet4 (s : State) : Result := firstByte 0x34 (resolve (digitValue 0x34)) s

/-- `SET5` (40_parser R86). -/
def execSet5 (s : State) : Result := firstByte 0x35 (resolve (digitValue 0x35)) s

/-- `SET6` (40_parser R87). -/
def execSet6 (s : State) : Result := firstByte 0x36 (resolve (digitValue 0x36)) s

/-- `SET7` (40_parser R88). -/
def execSet7 (s : State) : Result := firstByte 0x37 (resolve (digitValue 0x37)) s

/-- `SET8` (40_parser R89). -/
def execSet8 (s : State) : Result := firstByte 0x38 (resolve (digitValue 0x38)) s

/-- `SET9` (40_parser R90). -/
def execSet9 (s : State) : Result := firstByte 0x39 (resolve (digitValue 0x39)) s

/-- `INV1` (40_parser R91): takes the exception `Invalid(INV_FIRST)`. -/
def execInv1 (b : Byte) (s : State) : Result := firstByte b (raiseInvalid .invFirst) s

/-- `SET10` (40_parser R92): the value is the constant 10 (30_encoding R63). -/
def execSet10 (s : State) : Result := secondByte 0x30 (resolve 10) s

/-- `SET1` (40_parser R93): the value is the constant 1 (30_encoding R63). -/
def execSet1 (s : State) : Result := secondByte Config.cr (resolve 1) s

/-- `INV2` (40_parser R94): takes the exception `Invalid(INV_SECOND)`. -/
def execInv2 (b : Byte) (s : State) : Result := secondByte b (raiseInvalid .invSecond) s

end Sys2Proof.Machine
end

