-- ==== Sys2Proof/Machine/Dispatch.lean ====
section
/-! DEFINITION. What each instruction does: one arm for each byte class. -/

namespace Sys2Proof.Machine

def exec (i : Instr) (s : State) : Host.Outcome State Fault Refusal :=
  match i with
  | .set0 => Sys2Proof.Machine.execSet0 s
  | .pfx1 => Sys2Proof.Machine.execPfx1 s
  | .set2 => Sys2Proof.Machine.execSet2 s
  | .set3 => Sys2Proof.Machine.execSet3 s
  | .set4 => Sys2Proof.Machine.execSet4 s
  | .set5 => Sys2Proof.Machine.execSet5 s
  | .set6 => Sys2Proof.Machine.execSet6 s
  | .set7 => Sys2Proof.Machine.execSet7 s
  | .set8 => Sys2Proof.Machine.execSet8 s
  | .set9 => Sys2Proof.Machine.execSet9 s
  | .inv1 b => Sys2Proof.Machine.execInv1 b s
  | .set10 => Sys2Proof.Machine.execSet10 s
  | .set1 => Sys2Proof.Machine.execSet1 s
  | .inv2 b => Sys2Proof.Machine.execInv2 b s

end Sys2Proof.Machine
end

