-- ==== Sys2Proof/Machine/Driver.lean ====
section
/-! DEFINITION. The Potentiometer Driver: `apply` as its ten micro-steps (41_spi_driver R110 to R123). -/

namespace Sys2Proof.Machine

/-- Step 0, lookup: `DRV.cb <- TableRead(PS.value)`, or ContractViolation and nothing else (R110, R111). -/
def drvLookup (s : State) : Except FaultReason State :=
  (tableRead s.ps.value.toNat).map fun b => s.setDrv ⟨.csAssert, b⟩

/-- Step 1, chip-select assert (R112). -/
def drvCsAssert (s : State) : Except FaultReason State := .ok (goStep .loopOn (assertCs s))

/-- Step 2, loopback enable (R113). -/
def drvLoopOn (s : State) : Except FaultReason State := (writeLoop true s).map (goStep .engStart)

/-- Step 3, engine start (R114). -/
def drvEngStart (s : State) : Except FaultReason State := (writeEng true s).map (goStep .txWrite)

/-- Step 4, transmit-register write (R115). -/
def drvTxWrite (s : State) : Except FaultReason State := (writeTxReg s.drv.cb s).map (goStep .waitDone)

/-- Step 5, wait for transfer-complete: MAIN has no step while `DONE = 0` (R116). -/
def drvWaitDone (s : State) : Except FaultReason State := .ok (if s.done then goStep .discard s else s)

/-- Step 6, discard read: the value read is dropped (R119). -/
def drvDiscard (s : State) : Except FaultReason State := .ok (goStep .engStop (readRxsh s).2)

/-- Step 7, engine stop (R120). -/
def drvEngStop (s : State) : Except FaultReason State := (writeEng false s).map (goStep .loopOff)

/-- Step 8, loopback disable (R121). -/
def drvLoopOff (s : State) : Except FaultReason State := (writeLoop false s).map (goStep .csDeassert)

/-- Step 9, chip-select deassert, and the return in the same step: `DRV.step <- 0; SEQ.phase <- PROMPT; SEQ.idx <- 0`
(R122, R123). -/
def drvCsDeassert (s : State) : Except FaultReason State :=
  .ok (enter .prompt (goStep .lookup (deassertCs s)))

/-- The micro-step that `DRV.step` selects. -/
def driverStep (s : State) : Result :=
  orRaise s (match s.drv.step with
    | .lookup => drvLookup s
    | .csAssert => drvCsAssert s
    | .loopOn => drvLoopOn s
    | .engStart => drvEngStart s
    | .txWrite => drvTxWrite s
    | .waitDone => drvWaitDone s
    | .discard => drvDiscard s
    | .engStop => drvEngStop s
    | .loopOff => drvLoopOff s
    | .csDeassert => drvCsDeassert s)

end Sys2Proof.Machine
end

