-- ==== Sys2Proof/Machine/Engine.lean ====
section
/-! DEFINITION. ENGINE, the transfer engine (41_spi_driver R117, R118), and the pins as far as the spec goes
(10_state R28, 41_spi_driver R130). -/

namespace Sys2Proof.Machine

/-- ENGINE has a step: `ENG = 1` and `SHCNT < 8`, and the block is not halted (41_spi_driver R117, 60_exceptions
R178). -/
def engineEnabled (s : State) : Bool := decide (s.seq.phase ≠ .halted) && s.eng && inTransfer s

/-- `RXSH` after bit `k`, value `v`, went out: with `LOOP` = 1 that bit is the bit sent (10_state R23); with `LOOP` = 0 it
is not written (41_spi_driver R117, 93_implementation_defined I6): DEDUCED, log entry 5. -/
def shadowAfter (k : Fin 8) (v : Level) (s : State) : Byte :=
  if s.loop then setByteBit s.rxsh k v else s.rxsh

/-- One bit: bit `7 - SHCNT` of `TXREG` on `MOSI` with one pulse of `SCLK`, which ends where it rests; the bit is
logged, received and counted, and the eighth sets DONE (41_spi_driver R117, R118, R130). -/
def shiftBit (s : State) : State :=
  let k := bitIndex s.shcnt.val
  let v := byteBit s.txReg k
  { s with
    mosi := v
    sclk := Config.spiCpol
    spiLog := s.spiLog ++ [.bit k v]
    rxsh := shadowAfter k v s
    shcnt := s.shcnt + 1
    done := doneAfterBit s.shcnt.val s }

/-- The ENGINE bit step; ENGINE has none while it is not enabled (41_spi_driver R117). -/
def engineStep (s : State) : State := if engineEnabled s then shiftBit s else s

/-- The level of the pin `MOSI`: what ENGINE drove, from the first bit of a transfer to its completion; outside a
transfer the spec gives none, and the level is a free value (10_state R28; log entry 3). -/
def mosiLevel (s : State) : Level :=
  if s.shcnt.val = 0 ∨ s.shcnt.val = 8 then Config.freeMosi s.env.freeTick else s.mosi

/-- The levels of `SCLK` and `MOSI` through one bit, in order, for a polarity, a phase, the level of `MOSI` before the
bit and the bit's value (41_spi_driver R130, general knowledge there): PRESUMED, log entry 6; no step depends on it. -/
def bitWave (cpol cpha before v : Level) : List (Level × Level) :=
  if cpha then [(cpol, before), (!cpol, v), (cpol, v)] else [(cpol, v), (!cpol, v), (cpol, v)]

/-- The waveform of one bit on this block's pins, at its open parameters (41_spi_driver R130, D12). -/
def pinWave (before v : Level) : List (Level × Level) := bitWave Config.spiCpol Config.spiCpha before v

/-- What the device samples from a bit's waveform: `MOSI` at the first edge with phase 0, at the second with phase 1
(41_spi_driver R130): PRESUMED, log entry 6. The value just before the edge is what stands on the pin at it. -/
def sampledBit (cpha : Level) (wave : List (Level × Level)) : Option Level :=
  (if cpha then wave[1]? else wave[0]?).map (·.2)

/-- One byte on the terminal link: start bit, eight data bits with the least significant first, stop bit (20_memory
R45, general knowledge there; 30_encoding R70): PRESUMED, log entry 7; no step depends on it. -/
def serialFrame (b : Byte) : List Level :=
  false :: (List.range 8).map (fun k => b.getLsbD k) ++ List.replicate Config.frame.stopBits true

end Sys2Proof.Machine
end

