-- ==== Sys2Proof/Machine/Sequencer.lean ====
section
/-! DEFINITION. MAIN's command cycle, ENV's events and the schedule (42_sequencer_transport R140 to R158). -/

namespace Sys2Proof.Machine

/-- The block is quiescent: it can take a byte (42_sequencer_transport R141, R158). -/
def quiescent (s : State) : Bool :=
  decide (s.seq.phase = .idle) && !s.rxp && decide (s.fault = FaultSet.empty)

/-- One byte of a string through the blocking `send_byte`, and the index advanced; held while the transmit buffer is
full (42_sequencer_transport R144, R145, R146, R152). -/
def sendStringByte (read : Except FaultReason Byte) (s : State) : Result :=
  if txFree s then
    orRaise s (read.map fun b => tx b (s.setSeq { s.seq with idx := s.seq.idx + 1 }))
  else .next s

/-- Phase PROMPT: a prompt byte, or at index 21 the end of the prompt and the parser's restart (R146, R147). -/
def promptStep (s : State) : Result :=
  if s.seq.idx.val < 21 then sendStringByte (promptRead s.seq.idx.val) s
  else .next (enter .idle (parserRestart s))

/-- Phase INVMSG: a byte of the message, or at index 21 on to the prompt (R152). -/
def invmsgStep (s : State) : Result :=
  if s.seq.idx.val < 21 then sendStringByte (invalidMsgRead s.seq.idx.val) s
  else .next (leaveInvalid s)

/-- Wake and consume: `b <- LRB; RXP <- 0; ParserStep(b); SEQ.phase <- DISPATCH`. The stage selects the format, the
format the byte class, and the class acts (R149, 40_parser R80, R95). -/
def wakeStep (s : State) : Result :=
  match stageFormat s.ps.stage with
  | some f => mapNext (setPhase .dispatch) (exec (decodeByte f s.lrb) (clearRxp s))
  | none => .refused .parserTerminal

/-- Phase IDLE: MAIN has no step until RXP = 1 (R148, R149). -/
def idleStep (s : State) : Result := if s.rxp then wakeStep s else .next s

/-- Phase DISPATCH (R150). -/
def dispatchStep (s : State) : Result :=
  match s.ps.stage with
  | .await1 => .refused .dispatchAwait1
  | .await2 => .next (setPhase .idle s)
  | .resolved => .next (goStep .lookup (setPhase .apply s))
  | .invalid => .next (enterInvalid s)

/-- MAIN's step, or the state unchanged where MAIN has none (R140). -/
def mainStep (s : State) : Result :=
  match s.seq.phase with
  | .halted => .next s
  | .prompt => promptStep s
  | .idle => idleStep s
  | .dispatch => dispatchStep s
  | .apply => driverStep s
  | .invmsg => invmsgStep s

/-- No agent has a step while FAULT is not empty (10_state R30). -/
def unlessFaulted (s : State) (r : Result) : Result :=
  if s.fault = FaultSet.empty then r else .fault (.stopped s.fault)

/-- The block moves by itself: ENGINE if it has a step, else MAIN. In every reachable state at most one of the two has
one (41_spi_driver R124); log entry 8. -/
def blockStep (s : State) : Result :=
  unlessFaulted s (if engineEnabled s then .next (engineStep s) else mainStep s)

/-- The turn at the head of the schedule is over. -/
def dropTurn (s : State) : State := s.setEnv { s.env with turns := s.env.turns.tail }

/-- ENV delivers `RxByte(b)`: without effect in HALTED; taken by ISR in a quiescent state, once the transmit buffer is
free for the echo; a breach of the hazard rule in any other state (R141, R142, 70_reset_and_hazards R194, R199). The
turn lasts while ISR waits for the buffer. -/
def deliverByte (b : Byte) (s : State) : State :=
  if s.seq.phase = .halted then dropTurn s
  else if quiescent s then (if txFree s then dropTurn (takeInterrupt b s) else s)
  else dropTurn (raise .rxOverrun s)

/-- ENV keeps the transmit buffer full for the next `n` steps; the count is one more here, for the tick that ends this
step. -/
def holdTx (n : Nat) (s : State) : State := s.setEnv { s.env with txWait := n + 1 }

/-- The turn at the head of the schedule, or the block's own move when there is none. -/
def turnStep (s : State) : Result :=
  match s.env.turns with
  | [] => blockStep s
  | .rxByte b :: _ => .next (deliverByte b s)
  | .rxWhenReady b :: _ => if quiescent s then .next (deliverByte b s) else blockStep s
  | .reset initOk :: _ => .next (dropTurn (resetEvent initOk s))
  | .txHold n :: _ => .next (dropTurn (holdTx n s))
  | .main :: _ => mapNext dropTurn (unlessFaulted s (mainStep s))
  | .engine :: _ => mapNext dropTurn (unlessFaulted s (.next (engineStep s)))

/-- A step has passed: the transmit buffer is full for one step less, and free values are taken anew. -/
def tick (s : State) : State :=
  s.setEnv { s.env with txWait := s.env.txWait - 1, freeTick := s.env.freeTick + 1 }

/-- One step of the block and its environment. -/
def machineStep (s : State) : Result := mapNext tick (turnStep s)

/-- The state in which the next step runs the byte class of a word of the opcode table: MAIN in IDLE, woken, the byte
in `LRB`, the parser in the stage that selects the word's format (for F2 with the `'1'` of `PFX1` taken), no fault, and
MAIN's turn next; log entry 11. -/
def placeTableWord (s : State) (nbits w : Nat) : State :=
  let start := parserRestart (s.setFault FaultSet.empty)
  let staged := match tableFormat nbits w with
    | .f1 => start
    | .f2 => awaitSecond 1 (recordFirst 0x31 start)
  (raiseRxp (cellWrite (BitVec.ofNat 8 w) (enter .idle staged))).setEnv
    { s.env with turns := .main :: s.env.turns }

end Sys2Proof.Machine
end

