-- ==== Sys2Proof/Machine/Step.lean ====
section
/-! DEFINITION. The step of the machine and the placing of an instruction for it. -/

namespace Sys2Proof.Machine

/-- One step of the block and its environment (00_scope R5, R6). -/
def step (s : State) : Host.Outcome State Fault Refusal := machineStep s

/-- The state whose very next step runs the instruction with the bits `w`. -/
def State.withFetchWord (s : State) (nbits w : Nat) : State := placeTableWord s nbits w

end Sys2Proof.Machine
end

