-- ==== Sys2Proof/Safety.lean ====
section
/-! DEFINITION. What counts as a safe run, in the terms the statements use: the invariants of 10_state R36, the framing
of the bus (R198), and the block as a function of its input bytes (42_sequencer_transport R155). -/

namespace Sys2Proof.Machine

/-- `k` steps of the machine. -/
def runSteps (k : Nat) (s : State) : Result := Host.Core.run Sys2Proof.core k s

/-- Which stages a phase of the command cycle is entered with (42_sequencer_transport R146 to R152). -/
def stageFits : Phase → Stage → Bool
  | .halted, _ => true
  | .prompt, st => st != .await2
  | .idle, st => st == .await1 || st == .await2
  | .dispatch, st => st != .await1
  | .apply, st => st == .resolved
  | .invmsg, st => st == .invalid

/-- R36 (i), (ii), (iii), and the stages of each phase. -/
abbrev ParserInv (s : State) : Prop :=
  (s.ps.stage = .resolved → s.ps.value.toNat ≤ 10) ∧
  (s.ps.stage = .await2 → s.cb.count = 1 ∧ s.cb.b0 = 0x31 ∧ s.ps.value = 1) ∧
  (s.ps.stage = .await1 → s.seq.phase = .idle → s.cb.count = 0) ∧
  stageFits s.seq.phase s.ps.stage = true

/-- R36 (vi), and where the string index and the driver's step are 0 (10_state R16, R17). -/
abbrev SeqInv (s : State) : Prop :=
  (s.rxp = true → s.seq.phase = .idle) ∧
  (s.seq.phase = .idle ∨ s.seq.phase = .dispatch ∨ s.seq.phase = .apply → s.seq.idx = 0) ∧
  (s.seq.phase ≠ .apply → s.drv.step = .lookup)

/-- R36 (iv), (v): each control bit of the bus is what the driver's step says, whatever the phase. -/
abbrev BusInv (s : State) : Prop :=
  s.csn = !decide (2 ≤ stepIndex s.drv.step ∧ stepIndex s.drv.step ≤ 9) ∧
  s.loop = decide (3 ≤ stepIndex s.drv.step ∧ stepIndex s.drv.step ≤ 8) ∧
  s.eng = decide (4 ≤ stepIndex s.drv.step ∧ stepIndex s.drv.step ≤ 7) ∧
  s.done = decide (s.drv.step = .discard ∨ (s.drv.step = .waitDone ∧ s.shcnt = 8)) ∧
  (s.drv.step ≠ .waitDone → s.shcnt = 8)

/-- One event read by the frame scanner: `none` between frames, `some n` inside one with `n` bits read. A `CsLow`
opens a frame, eight bits follow with the most significant first, a `CsHigh` closes it (70_reset_and_hazards R198). -/
def scanEvent : Option Nat → BusEvent → Option (Option Nat)
  | none, .csLow => some (some 0)
  | none, .bit _ _ => none
  | none, .csHigh => none
  | some _, .csLow => none
  | some n, .bit k _ => if n < 8 ∧ k.val = 7 - n then some (some (n + 1)) else none
  | some n, .csHigh => if n = 8 then some none else none

/-- The scanner over a bus log; `none` where the log is not well framed. -/
def busScan (log : List BusEvent) : Option (Option Nat) := log.foldlM scanEvent none

/-- The bits sent in the open frame. -/
def bitsSent (s : State) : Nat :=
  if stepIndex s.drv.step < 5 then 0 else s.shcnt.val

/-- R36 (vii): the bus log is well framed, and a frame is open exactly while `CSN` is 0. -/
abbrev FrameInv (s : State) : Prop :=
  busScan s.spiLog = some (if s.csn then none else some (bitsSent s))

/-- What the driver carries: the latch holds the Control Byte of the setting, `TXREG` the latch, and the bits of `RXSH`
already received equal those of `TXREG` (10_state R18, R25, R26). -/
abbrev TransferInv (s : State) : Prop :=
  (1 ≤ stepIndex s.drv.step → Config.table[s.ps.value.toNat]? = some s.drv.cb) ∧
  (5 ≤ stepIndex s.drv.step → s.txReg = s.drv.cb) ∧
  (5 ≤ stepIndex s.drv.step →
    ∀ k : Fin 8, 8 - s.shcnt.val ≤ k.val → byteBit s.rxsh k = byteBit s.txReg k)

/-- In HALTED nothing was ever sent and nothing raised (60_exceptions R178, R174). -/
abbrev HaltedInv (s : State) : Prop :=
  s.txLog = [] ∧ s.spiLog = [] ∧ s.fault = FaultSet.empty

/-- The invariant of the block (10_state R36). A halted block has unspecified fields (R37), so only `HaltedInv` is
said of it. -/
structure Inv (s : State) : Prop where
  halted : s.seq.phase = .halted → HaltedInv s
  parser : s.seq.phase ≠ .halted → ParserInv s
  sequencer : s.seq.phase ≠ .halted → SeqInv s
  bus : s.seq.phase ≠ .halted → BusInv s
  frame : s.seq.phase ≠ .halted → FrameInv s
  transfer : s.seq.phase ≠ .halted → TransferInv s

/-- `SpiWrite(cb)`: the ten bus events of one `apply` (41_spi_driver R128). -/
def spiWrite (cb : Byte) : List BusEvent :=
  [.csLow, .bit 7 (byteBit cb 7), .bit 6 (byteBit cb 6), .bit 5 (byteBit cb 5), .bit 4 (byteBit cb 4),
   .bit 3 (byteBit cb 3), .bit 2 (byteBit cb 2), .bit 1 (byteBit cb 1), .bit 0 (byteBit cb 0), .csHigh]

/-- The stage a format is read in. -/
def formatStage : Format → Stage
  | .f1 => .await1
  | .f2 => .await2

/-- What one byte does between two quiescent states: the format of the next byte, and what the two logs gain
(42_sequencer_transport R155, its table row by row). -/
structure Response where
  next : Format
  txGain : List Byte
  spiGain : List BusEvent
deriving DecidableEq, Repr

/-- A setting was applied. -/
def applied (b cb : Byte) : Response := ⟨.f1, b :: Config.prompt, spiWrite cb⟩

/-- The entry was invalid. -/
def rejected (b : Byte) : Response := ⟨.f1, b :: (Config.invalidMsg ++ Config.prompt), []⟩

/-- `OnByte(stage, b)` (42_sequencer_transport R155). -/
def onByte (f : Format) (b : Byte) : Response :=
  match f with
  | .f1 =>
    if b = 0x30 then applied b 0x00
    else if b = 0x31 then ⟨.f2, [b], []⟩
    else if isDigit b then
      match Config.table[(b - 0x30#8).toNat]? with
      | some cb => applied b cb
      | none => rejected b
    else rejected b
  | .f2 =>
    if b = 0x30 then applied b 0xFF
    else if b = 0x0D then applied b 0x1A
    else rejected b

/-- The fold of `OnByte` over a sequence of bytes (42_sequencer_transport R155). -/
def onBytes : Format → List Byte → Response
  | f, [] => ⟨f, [], []⟩
  | f, b :: rest =>
    let r := onByte f b
    let q := onBytes r.next rest
    ⟨q.next, r.txGain ++ q.txGain, r.spiGain ++ q.spiGain⟩

/-- The steps from the delivery of a byte to the next quiescent state, the ISR step included (70_reset_and_hazards
R202): the ISR step, then 42, 46 or 2. -/
def stepsFor (f : Format) (b : Byte) : Nat :=
  let r := onByte f b
  if r.spiGain ≠ [] then 43 else if r.next = .f2 then 3 else 47

end Sys2Proof.Machine
end

