-- ==== Sys2Proof/Certificates/Slice0/Obligations.lean ====
section
/-! DEFINITION. The statements about the block. A state is written as the state before with the fields that change;
every field not named is unchanged. `env`, the model's own fields (the schedule, the transmit buffer, the free-value
tick: log entries 3, 8 and 9), is left open wherever a rule of the spec is stated: `∃ e, … env := e`. -/

open Sys2Proof Sys2Proof.Machine

/-! ## The byte classes (40_parser) -/

/-- R81: `'0'` as a first byte is `SET0`, which resolves to 0, and 0 is sent as 0x00. -/
def Obligations.Set0ResolvesZero : Prop :=
  decodeByte .f1 0x30 = .set0 ∧ tableRead 0 = .ok 0x00 ∧
  ∀ s : State, s.ps.stage = .await1 →
    exec .set0 s = .next { s with ps := ⟨.resolved, 0⟩, cb := ⟨1, 0x30, s.cb.b1⟩ }

/-- R82: `'1'` as a first byte is `PFX1`, which writes 1 and waits for a second byte. -/
def Obligations.Pfx1AwaitsSecondByte : Prop :=
  decodeByte .f1 0x31 = .pfx1 ∧
  ∀ s : State, s.ps.stage = .await1 →
    exec .pfx1 s = .next { s with ps := ⟨.await2, 1⟩, cb := ⟨1, 0x31, s.cb.b1⟩ }

/-- R83 to R90: each of `'2'` to `'9'` is its class, which resolves to its digit, and the digit's Control Byte is the
one the rule's example gives. -/
def Obligations.DigitsTwoToNineResolve : Prop :=
  ∀ e ∈ [(Instr.set2, 0x32#8, 2#4, 0x33#8), (.set3, 0x33#8, 3#4, 0x4D#8), (.set4, 0x34#8, 4#4, 0x66#8),
      (.set5, 0x35#8, 5#4, 0x80#8), (.set6, 0x36#8, 6#4, 0x9A#8), (.set7, 0x37#8, 7#4, 0xB3#8),
      (.set8, 0x38#8, 8#4, 0xCD#8), (.set9, 0x39#8, 9#4, 0xE6#8)],
    decodeByte .f1 e.2.1 = e.1 ∧ tableRead e.2.2.1.toNat = .ok e.2.2.2 ∧
    ∀ s : State, s.ps.stage = .await1 →
      exec e.1 s = .next { s with ps := ⟨.resolved, e.2.2.1⟩, cb := ⟨1, e.2.1, s.cb.b1⟩ }

/-- R91: a first byte outside 0x30 to 0x39 is `INV1`, which takes `Invalid(INV_FIRST)`: the stage alone is written
beside the Command Buffer. -/
def Obligations.FirstByteOutsideDigitsIsInvalid : Prop :=
  ∀ b : Byte, isDigit b = false → decodeByte .f1 b = .inv1 b ∧
    ∀ s : State, s.ps.stage = .await1 →
      exec (.inv1 b) s = .next { s with ps := ⟨.invalid, s.ps.value⟩, cb := ⟨1, b, s.cb.b1⟩ }

/-- R92: `'0'` as a second byte is `SET10`, which resolves to 10, and 10 is sent as 0xFF. -/
def Obligations.SecondZeroResolvesTen : Prop :=
  decodeByte .f2 0x30 = .set10 ∧ tableRead 10 = .ok 0xFF ∧
  ∀ s : State, s.ps.stage = .await2 →
    exec .set10 s = .next { s with ps := ⟨.resolved, 10⟩, cb := ⟨2, s.cb.b0, 0x30⟩ }

/-- R93: the carriage return as a second byte is `SET1`, which resolves to 1, and 1 is sent as 0x1A; the line feed is
not accepted in its place. -/
def Obligations.CarriageReturnResolvesOne : Prop :=
  decodeByte .f2 0x0D = .set1 ∧ decodeByte .f2 0x0A = .inv2 0x0A ∧ tableRead 1 = .ok 0x1A ∧
  ∀ s : State, s.ps.stage = .await2 →
    exec .set1 s = .next { s with ps := ⟨.resolved, 1⟩, cb := ⟨2, s.cb.b0, 0x0D⟩ }

/-- R94: any other second byte is `INV2`, which takes `Invalid(INV_SECOND)`: the value is kept. -/
def Obligations.OtherSecondByteIsInvalid : Prop :=
  ∀ b : Byte, b ≠ 0x30 → b ≠ 0x0D → decodeByte .f2 b = .inv2 b ∧
    ∀ s : State, s.ps.stage = .await2 →
      exec (.inv2 b) s = .next { s with ps := ⟨.invalid, s.ps.value⟩, cb := ⟨2, s.cb.b0, b⟩ }

/-- R95: no byte class has a meaning in a terminal stage, and a class of one format has none in the stage of the other
(the second clause is the model's reading of R61 and R80). -/
def Obligations.TerminalStagesTakeNoByte : Prop :=
  ∀ (i : Instr) (s : State),
    ((s.ps.stage = .resolved ∨ s.ps.stage = .invalid) → exec i s = .refused .parserTerminal) ∧
    (s.ps.stage = .await1 → instrFormat i = .f2 → exec i s = .refused .wrongFormat) ∧
    (s.ps.stage = .await2 → instrFormat i = .f1 → exec i s = .refused .wrongFormat)

/-- R80, R96, R64, R65: `ParserStep(b)` completes on every byte in both stages, records it, and moves as the tables
say, by the byte's value. -/
def Obligations.ParserStepByStageAndByte : Prop :=
  ∀ (b : Byte) (s : State),
    (s.ps.stage = .await1 → exec (decodeByte .f1 b) s = .next { s with
      cb := ⟨1, b, s.cb.b1⟩
      ps := if b = 0x31 then ⟨.await2, 1⟩
        else if isDigit b then ⟨.resolved, (b - 0x30#8).setWidth 4⟩ else ⟨.invalid, s.ps.value⟩ }) ∧
    (s.ps.stage = .await2 → exec (decodeByte .f2 b) s = .next { s with
      cb := ⟨2, s.cb.b0, b⟩
      ps := if b = 0x30 then ⟨.resolved, 10⟩
        else if b = 0x0D then ⟨.resolved, 1⟩ else ⟨.invalid, s.ps.value⟩ })

/-- The frame of all fourteen byte classes: whatever the state, where a class gives a next state, it has written PS and
CB alone, of CB only the byte of its own position and the count; the classes `INV1` and `INV2` keep the value; every
cell of every space reads as before. -/
def Obligations.ByteClassFrame : Prop :=
  ∀ (i : Instr) (s t : State), exec i s = .next t →
    t = { s with ps := t.ps, cb := t.cb } ∧
    (instrFormat i = .f1 → t.cb.b1 = s.cb.b1) ∧ (instrFormat i = .f2 → t.cb.b0 = s.cb.b0) ∧
    (t.ps.stage = .invalid → t.ps.value = s.ps.value) ∧
    ∀ (sp : Space) (a : Nat), memRead sp a t = memRead sp a s

/-! ## Decoding (30_encoding) -/

/-- Bytes written out from the tables of R64 and R65, bit 7 first, decode to the classes they stand for. -/
def Obligations.WrittenOutBytesDecode : Prop :=
  decodeByte .f1 0b00110000 = .set0 ∧ decodeByte .f1 0b00110001 = .pfx1 ∧ decodeByte .f1 0b00111001 = .set9 ∧
  decodeByte .f1 0b00001101 = .inv1 0x0D ∧ decodeByte .f1 0b10110101 = .inv1 0xB5 ∧
  decodeByte .f2 0b00110000 = .set10 ∧ decodeByte .f2 0b00001101 = .set1 ∧ decodeByte .f2 0b00110101 = .inv2 0x35

/-- Encoding a command stream and decoding it gives it back: every well-formed class, at every byte it can carry, in
every order the parser can take (R61, R64, R65, R67, R73). -/
def Obligations.DecodeOfEncodedStream : Prop :=
  ∀ (f : Format) (is : List Instr), isCommandStream f is = true → decodeStream f (encodeStream is) = is

/-- Decoding any bytes gives a command stream, and encoding that gives the bytes back: the decoder is total and drops
nothing (R60, R67). -/
def Obligations.EncodeOfDecodedStream : Prop :=
  ∀ (f : Format) (bs : List Byte),
    isCommandStream f (decodeStream f bs) = true ∧ encodeStream (decodeStream f bs) = bs

/-! ## The read-only spaces (20_memory) -/

/-- R41: the table's contents, total and injective over 0 to 10. -/
def Obligations.TableIsTotalAndInjective : Prop :=
  (List.range 11).map tableRead =
    ([0, 26, 51, 77, 102, 128, 154, 179, 205, 230, 255] : List Byte).map Except.ok ∧
  ∀ i j : Fin 11, tableRead i = tableRead j → i = j

/-- R58, R43: an index outside a space has no cell; the read is a ContractViolation and gives no byte. R58 gives the fault
for the table and the strings; that a read of CELL above 0 is the same fault is the model's, DEDUCED (log entry 10). -/
def Obligations.ReadsOutsideASpaceFault : Prop :=
  (∀ i : Nat, 10 < i → tableRead i = .error .contractViolation) ∧
  (∀ i : Nat, 20 < i → promptRead i = .error .contractViolation) ∧
  (∀ i : Nat, 20 < i → invalidMsgRead i = .error .contractViolation) ∧
  (∀ (i : Nat) (s : State), 0 < i → memRead .cell i s = .error .contractViolation)

/-- R42, R72: the two strings, byte by byte, 21 bytes each. -/
def Obligations.StringsByteByByte : Prop :=
  (List.range 21).map promptRead = ([0x0A, 0x0D, 0x20, 0x52, 0x65, 0x73, 0x69, 0x73, 0x74, 0x61, 0x6E, 0x63, 0x65,
    0x20, 0x78, 0x20, 0x31, 0x30, 0x6B, 0x3A, 0x20] : List Byte).map Except.ok ∧
  (List.range 21).map invalidMsgRead = ([0x20, 0x20, 0x2A, 0x2A, 0x20, 0x49, 0x6E, 0x76, 0x61, 0x6C, 0x69, 0x64,
    0x20, 0x65, 0x6E, 0x74, 0x72, 0x79, 0x20, 0x2A, 0x2A] : List Byte).map Except.ok

/-! ## Reset (10_state R37, 70_reset_and_hazards) -/

/-- The values R37 and R190 give for reset; the fields R37 leaves unspecified are not among them. -/
abbrev ResetValues (t : State) : Prop :=
  t.seq = ⟨.prompt, 0⟩ ∧ t.ps.stage = .await1 ∧ t.cb.count = 0 ∧ t.rxp = false ∧ t.drv.step = .lookup ∧
  t.csn = true ∧ t.loop = false ∧ t.eng = false ∧ t.done = false ∧ t.shcnt = 8 ∧ t.sclk = Config.spiCpol ∧
  t.txLog = [] ∧ t.spiLog = [] ∧ t.fault = FaultSet.empty

/-- R190, R203: `Reset(true)` in any state gives the reset values, `Reset(false)` the phase HALTED and empty logs; and
the model's state after reset has the reset values. -/
def Obligations.ResetGivesResetValues : Prop :=
  (∀ (s : State) (rest : List Turn), s.env.turns = .reset true :: rest → ∃ t, step s = .next t ∧ ResetValues t) ∧
  (∀ (s : State) (rest : List Turn), s.env.turns = .reset false :: rest →
    ∃ t, step s = .next t ∧ t.seq.phase = .halted ∧ t.txLog = [] ∧ t.spiLog = []) ∧
  ResetValues State.reset

/-- R191, R178: `Reset(false)` in any state gives HALTED, and until another reset the block stays there, whatever ENV
does, and sends nothing. That every turn in HALTED is a next state is the model's (log entry 8), and so is FAULT empty
there, without which a turn would be a fault (log entry 4, unsafe). -/
def Obligations.FailedResetHalts : Prop :=
  ∀ (s : State) (rest : List Turn) (n : Nat), s.env.turns = .reset false :: rest → (∀ ok, .reset ok ∉ rest) →
    ∃ t, runSteps (n + 1) s = .next t ∧ t.seq.phase = .halted ∧ t.txLog = [] ∧ t.spiLog = []

/-- R178, R141: in HALTED no agent has a step and a delivered byte has no effect: every step but a reset leaves all but
the model's own fields as they were. The model's choices in it: the fields that a failed reset leaves unspecified stay
as they are, and FAULT is empty there (log entry 4, unsafe); a turn without a step is a next state that changes `env`
alone (log entry 8). -/
def Obligations.HaltedStaysSilent : Prop :=
  ∀ s : State, s.seq.phase = .halted → s.fault = FaultSet.empty →
    (∀ ok, s.env.turns.head? ≠ some (.reset ok)) → ∃ e, step s = .next { s with env := e }

/-! ## The notification (42_sequencer_transport) -/

/-- R142, R143: a byte delivered in a quiescent state, the transmit buffer free, is echoed, stored and raises RXP, and
nothing else of the block changes. That the turn is over then is the model's (log entry 8). -/
def Obligations.InterruptEchoesStoresWakes : Prop :=
  ∀ (s : State) (b : Byte) (rest : List Turn), quiescent s = true → s.env.txWait = 0 →
    (s.env.turns = .rxByte b :: rest ∨ s.env.turns = .rxWhenReady b :: rest) →
    ∃ e, step s = .next { s with txLog := s.txLog ++ [b], lrb := b, rxp := true, env := e } ∧ e.turns = rest

/-- R180, R141, R194: a byte delivered while the block is busy is not echoed, not stored and not parsed: RxOverrun is
recorded and nothing else of the block changes. That the turn is over then is the model's (log entry 8). -/
def Obligations.ByteWhileBusyOverruns : Prop :=
  ∀ (s : State) (b : Byte) (rest : List Turn), s.env.turns = .rxByte b :: rest → quiescent s = false →
    s.seq.phase ≠ .halted →
    ∃ e, step s = .next { s with fault := { s.fault with rxOverrun := true }, env := e } ∧ e.turns = rest

/-- R141: a byte delivered in HALTED has no effect whatever. That the turn is over then is the model's (log entry 8). -/
def Obligations.ByteInHaltedIsIgnored : Prop :=
  ∀ (s : State) (b : Byte) (rest : List Turn), s.env.turns = .rxByte b :: rest → s.seq.phase = .halted →
    ∃ e, step s = .next { s with env := e } ∧ e.turns = rest

/-! ## MAIN (42_sequencer_transport, 41_spi_driver)

The block moves by itself: no turn is left in the schedule, FAULT is empty and ENGINE has no step. -/

/-- MAIN has the move. -/
abbrev MainMoves (s : State) : Prop :=
  s.env.turns = [] ∧ s.fault = FaultSet.empty ∧ engineEnabled s = false

/-- A step runs the decoded instruction (R149): awake in IDLE, in a stage that reads the format `f`, the byte in `LRB`
decodes to `i`, and the step is `exec i` on the state with RXP cleared, the phase then DISPATCH. What the model adds is
its own (log entry 8): `tick`, and `dropTurn` where MAIN's turn was scheduled, which write `env` alone. -/
def Obligations.StepRunsDecodedByte : Prop :=
  ∀ (s : State) (f : Format) (i : Instr) (bytes : List Byte), s.fault = FaultSet.empty → s.seq.phase = .idle →
    s.rxp = true → stageFormat s.ps.stage = some f → decode f (s.lrb :: bytes) = .ok (i, bytes) →
    (s.env.turns = [] → engineEnabled s = false →
      step s = mapNext tick (mapNext (setPhase .dispatch) (exec i (clearRxp s)))) ∧
    (∀ rest, s.env.turns = .main :: rest →
      step s = mapNext tick (mapNext dropTurn (mapNext (setPhase .dispatch) (exec i (clearRxp s)))))

/-- R149: awake, in a stage that takes a byte, MAIN reads `LRB`, clears RXP, and the byte's class acts and completes;
then the phase is DISPATCH. The class always leaves AWAIT1. -/
def Obligations.WakeConsumesOneByte : Prop :=
  ∀ (s : State) (f : Format), MainMoves s → s.seq.phase = .idle → s.rxp = true → s.ps.stage = formatStage f →
    ∃ u e, exec (decodeByte f s.lrb) { s with rxp := false } = .next u ∧ u.ps.stage ≠ .await1 ∧
      step s = .next { u with seq := ⟨.dispatch, s.seq.idx⟩, env := e }

/-- R146: with the transmit buffer free, the prompt byte that the index names is sent and the index advances. -/
def Obligations.PromptSendsNextByte : Prop :=
  ∀ s : State, MainMoves s → s.seq.phase = .prompt → s.seq.idx.val < 21 → s.env.txWait = 0 →
    ∃ b e, promptRead s.seq.idx.val = .ok b ∧
      step s = .next { s with txLog := s.txLog ++ [b], seq := ⟨.prompt, s.seq.idx + 1⟩, env := e }

/-- R147, R99: at the end of the prompt the parser is restarted, its other bits kept, and MAIN idles. -/
def Obligations.PromptEndRestartsParser : Prop :=
  ∀ s : State, MainMoves s → s.seq.phase = .prompt → s.seq.idx = 21 →
    ∃ e, step s = .next { s with
      ps := ⟨.await1, s.ps.value⟩, cb := ⟨0, s.cb.b0, s.cb.b1⟩, seq := ⟨.idle, 0⟩, env := e }

/-- R150: the phase that follows a byte is the stage's: AWAIT2 idles, RESOLVED applies, INVALID sends the message; the
stage AWAIT1, which no byte class leaves, is refused. -/
def Obligations.DispatchFollowsStage : Prop :=
  ∀ s : State, MainMoves s → s.seq.phase = .dispatch →
    (s.ps.stage = .await2 → ∃ e, step s = .next { s with seq := ⟨.idle, s.seq.idx⟩, env := e }) ∧
    (s.ps.stage = .resolved → ∃ e, step s = .next { s with
      seq := ⟨.apply, s.seq.idx⟩, drv := ⟨.lookup, s.drv.cb⟩, env := e }) ∧
    (s.ps.stage = .invalid → ∃ e, step s = .next { s with seq := ⟨.invmsg, 0⟩, env := e }) ∧
    (s.ps.stage = .await1 → step s = .refused .dispatchAwait1)

/-- R152: with the transmit buffer free, the byte of the invalid message that the index names is sent and the index
advances; at its end the prompt follows. -/
def Obligations.InvalidArmSendsMessage : Prop :=
  ∀ s : State, MainMoves s → s.seq.phase = .invmsg →
    (s.seq.idx.val < 21 → s.env.txWait = 0 → ∃ b e, invalidMsgRead s.seq.idx.val = .ok b ∧
      step s = .next { s with txLog := s.txLog ++ [b], seq := ⟨.invmsg, s.seq.idx + 1⟩, env := e }) ∧
    (s.seq.idx = 21 → ∃ e, step s = .next { s with seq := ⟨.prompt, 0⟩, env := e })

/-- R144, R199: while the transmit buffer is full, the echo of a byte, a prompt byte and a message byte each wait:
nothing of the block changes and nothing is lost. The buffer as a count of steps is the model's (log entry 9), and so is
that a waiting step is a next state and the turn of the byte stays (log entry 8). -/
def Obligations.SendWaitsForTheBuffer : Prop :=
  ∀ s : State, 0 < s.env.txWait →
    (∀ b rest, quiescent s = true → s.env.turns = .rxByte b :: rest ∨ s.env.turns = .rxWhenReady b :: rest →
      step s = .next { s with env := ⟨s.env.turns, s.env.txWait - 1, s.env.freeTick + 1⟩ }) ∧
    (MainMoves s → (s.seq.phase = .prompt ∨ s.seq.phase = .invmsg) → s.seq.idx.val < 21 →
      step s = .next { s with env := ⟨s.env.turns, s.env.txWait - 1, s.env.freeTick + 1⟩ })

/-- R111, R110: step 0 looks the Control Byte up; a setting above 10 raises ContractViolation and nothing else
happens. -/
def Obligations.LookupLatchesControlByte : Prop :=
  ∀ s : State, MainMoves s → s.seq.phase = .apply → s.drv.step = .lookup →
    (s.ps.value.toNat ≤ 10 → ∃ cb e, tableRead s.ps.value.toNat = .ok cb ∧
      step s = .next { s with drv := ⟨.csAssert, cb⟩, env := e }) ∧
    (10 < s.ps.value.toNat →
      ∃ e, step s = .next { s with fault := { s.fault with contractViolation := true }, env := e })

/-- R112, R122, R123: chip-select goes low in step 1 and high in step 9, each logged, and step 9 returns to the
prompt. -/
def Obligations.ChipSelectSteps : Prop :=
  ∀ s : State, MainMoves s → s.seq.phase = .apply →
    (s.drv.step = .csAssert → ∃ e, step s = .next { s with
      csn := false, spiLog := s.spiLog ++ [.csLow], drv := ⟨.loopOn, s.drv.cb⟩, env := e }) ∧
    (s.drv.step = .csDeassert → ∃ e, step s = .next { s with
      csn := true, spiLog := s.spiLog ++ [.csHigh], drv := ⟨.lookup, s.drv.cb⟩, seq := ⟨.prompt, 0⟩,
      env := e })

/-- R113, R114, R120, R121: the loopback and the engine are switched on in steps 2 and 3 and off in steps 8 and 7; no
bus event is logged. Switching off during a transfer is EngineMisuse (R131). -/
def Obligations.LoopbackAndEngineSteps : Prop :=
  ∀ s : State, MainMoves s → s.seq.phase = .apply →
    (s.drv.step = .loopOn → ∃ e, step s = .next { s with
      loop := true, drv := ⟨.engStart, s.drv.cb⟩, env := e }) ∧
    (s.drv.step = .engStart → ∃ e, step s = .next { s with
      eng := true, drv := ⟨.txWrite, s.drv.cb⟩, env := e }) ∧
    (s.drv.step = .engStop → s.shcnt = 8 → ∃ e, step s = .next { s with
      eng := false, drv := ⟨.loopOff, s.drv.cb⟩, env := e }) ∧
    (s.drv.step = .loopOff → s.shcnt = 8 → ∃ e, step s = .next { s with
      loop := false, drv := ⟨.csDeassert, s.drv.cb⟩, env := e })

/-- R115: the write of `TXREG` starts the transfer. -/
def Obligations.TransmitWriteStartsTransfer : Prop :=
  ∀ s : State, MainMoves s → s.seq.phase = .apply → s.drv.step = .txWrite → s.eng = true → s.shcnt = 8 →
    ∃ e, step s = .next { s with
      txReg := s.drv.cb, shcnt := 0, done := false, drv := ⟨.waitDone, s.drv.cb⟩, env := e }

/-- R116, R119: MAIN waits until DONE, then reads `RXSH`, drops it and clears DONE. Where R116 says that MAIN has no step,
the first clause has a next state that changes `env` alone: the model's (log entry 8). -/
def Obligations.WaitThenDiscard : Prop :=
  ∀ s : State, MainMoves s → s.seq.phase = .apply →
    (s.drv.step = .waitDone → s.done = false → ∃ e, step s = .next { s with env := e }) ∧
    (s.drv.step = .waitDone → s.done = true → ∃ e, step s = .next { s with
      drv := ⟨.discard, s.drv.cb⟩, env := e }) ∧
    (s.drv.step = .discard → ∃ e, step s = .next { s with
      done := false, drv := ⟨.engStop, s.drv.cb⟩, env := e })

/-- R131, R181: a write of `TXREG` with the engine stopped or a transfer in progress, and a clearing of ENG or LOOP
during a transfer, raise EngineMisuse; the driver's step that asks for one leaves all else as it was. -/
def Obligations.MisuseOfTheEngine : Prop :=
  (∀ (s : State) (b : Byte), s.eng = false ∨ s.shcnt.val < 8 → writeTxReg b s = .error .engineMisuse) ∧
  (∀ s : State, s.shcnt.val < 8 → writeEng false s = .error .engineMisuse ∧
    writeLoop false s = .error .engineMisuse) ∧
  (∀ s : State, MainMoves s → s.seq.phase = .apply →
    (s.drv.step = .txWrite ∧ (s.eng = false ∨ s.shcnt.val < 8) ∨
      (s.drv.step = .engStop ∨ s.drv.step = .loopOff) ∧ s.shcnt.val < 8) →
    ∃ e, step s = .next { s with fault := { s.fault with engineMisuse := true }, env := e })

/-! ## ENGINE (41_spi_driver) -/

/-- R117, R118: while ENG = 1 and SHCNT < 8, ENGINE sends bit `7 - SHCNT` of `TXREG` on `MOSI`, logs it, copies it into
`RXSH` if LOOP = 1, counts it, and sets DONE on the eighth. The model's choices in it: with LOOP = 0 the other bits of
`RXSH` are kept (log entry 5, unsafe); `SCLK` is back at rest after the bit (log entry 6); where MAIN has a step too, which
no state of the invariant allows, ENGINE moves (log entry 8). -/
def Obligations.EngineSendsOneBit : Prop :=
  ∀ s : State, s.fault = FaultSet.empty → s.seq.phase ≠ .halted → s.env.turns = [] → s.eng = true →
    s.shcnt.val < 8 →
    ∃ (k : Fin 8) (t : State), k.val = 7 - s.shcnt.val ∧ step s = .next t ∧
      t.mosi = s.txReg.getLsbD k.val ∧ t.spiLog = s.spiLog ++ [.bit k (s.txReg.getLsbD k.val)] ∧
      t.shcnt.val = s.shcnt.val + 1 ∧ t.done = (s.done || decide (t.shcnt = 8)) ∧
      (s.loop = true → t.rxsh.getLsbD k.val = s.txReg.getLsbD k.val) ∧
      (∀ j : Fin 8, j ≠ k → t.rxsh.getLsbD j.val = s.rxsh.getLsbD j.val) ∧
      t = { s with mosi := t.mosi, sclk := Config.spiCpol, spiLog := t.spiLog, shcnt := t.shcnt, done := t.done,
                   rxsh := t.rxsh, env := t.env }

/-- R117: with LOOP = 0 the bit step writes no bit of `RXSH`, and the bit is still sent, logged and counted. R117's
pseudocode and I6 say that the bits are not written; R117's corner cases call what `RXSH` receives not specified, and
the model takes the former, DEDUCED (log entry 5, unsafe). -/
def Obligations.BitStepWithoutLoopbackKeepsShadow : Prop :=
  ∀ s : State, engineEnabled s = true → s.loop = false →
    (engineStep s).rxsh = s.rxsh ∧ (engineStep s).shcnt.val = s.shcnt.val + 1 ∧
    ∃ k : Fin 8, k.val = 7 - s.shcnt.val ∧ (engineStep s).mosi = s.txReg.getLsbD k.val ∧
      (engineStep s).spiLog = s.spiLog ++ [.bit k (s.txReg.getLsbD k.val)]

/-- R118, R26, R44: from the write of `TXREG` on, with LOOP = 1, eight steps of ENGINE send its eight bits, most
significant first, and leave `RXSH` equal to it, DONE set and SHCNT at 8. R118 has MAIN waiting in step 5 meanwhile; in a
state outside the invariant where MAIN has a step too, that all eight steps are ENGINE's is the model's (log entry 8), and
so is `env` after them (log entries 3, 8 and 9). -/
def Obligations.TransferShadowsTransmitRegister : Prop :=
  ∀ s : State, s.fault = FaultSet.empty → s.seq.phase ≠ .halted → s.env.turns = [] → s.eng = true →
    s.loop = true → s.shcnt = 0 →
    ∃ t, runSteps 8 s = .next t ∧ t.rxsh = s.txReg ∧ t.done = true ∧ t.shcnt = 8 ∧
      t.spiLog = s.spiLog ++ (List.range 8).map (fun n => .bit (bitIndex n) (byteBit s.txReg (bitIndex n))) ∧
      t = { s with rxsh := t.rxsh, done := t.done, shcnt := t.shcnt, spiLog := t.spiLog, mosi := t.mosi,
                   sclk := t.sclk, env := ⟨[], s.env.txWait - 8, s.env.freeTick + 8⟩ }

/-! ## Whole-machine rules -/

/-- R124: `apply(n)`, from the state the rule names, in its eighteen steps. After the transfer R28 gives MOSI no value: that
the field keeps bit 0 of the Control Byte is the model's (log entry 3; the pin is `mosiLevel`), and so is `env`
(log entries 3, 8 and 9). -/
def Obligations.ApplyInEighteenSteps : Prop :=
  ∀ s : State, s.fault = FaultSet.empty → s.env.turns = [] → s.seq.phase = .apply → s.drv.step = .lookup →
    s.ps.value.toNat ≤ 10 → s.csn = true → s.loop = false → s.eng = false → s.done = false → s.shcnt = 8 →
    ∃ cb, tableRead s.ps.value.toNat = .ok cb ∧
      runSteps 18 s = .next { s with
        seq := ⟨.prompt, 0⟩, drv := ⟨.lookup, cb⟩, txReg := cb, rxsh := cb, spiLog := s.spiLog ++ spiWrite cb,
        mosi := byteBit cb 0, sclk := Config.spiCpol, env := ⟨[], s.env.txWait - 18, s.env.freeTick + 18⟩ }

/-- R124, last sentence: in every state of the invariant in which ENGINE has a step, MAIN has none; its step is then the
state itself (log entry 8). -/
def Obligations.EngineAndMainNeverBoth : Prop :=
  ∀ s : State, Inv s → engineEnabled s = true → mainStep s = .next s

/-- R155, R202: from a quiescent state of the invariant, one byte, the transmit buffer free: after the ISR step and 42,
46 or 2 more the block is quiescent again, and stage and logs are what `OnByte` says. -/
def Obligations.OneByteMatchesOnByte : Prop :=
  ∀ (f : Format) (b : Byte) (s : State), Inv s → quiescent s = true → s.ps.stage = formatStage f →
    s.env.turns = [.rxByte b] → s.env.txWait = 0 →
    ∃ t, runSteps (stepsFor f b) s = .next t ∧ Inv t ∧ quiescent t = true ∧
      t.ps.stage = formatStage (onByte f b).next ∧ t.txLog = s.txLog ++ (onByte f b).txGain ∧
      t.spiLog = s.spiLog ++ (onByte f b).spiGain ∧ t.lrb = b ∧ t.env.turns = [] ∧ t.env.txWait = 0

/-- R202: and it is not quiescent before. -/
def Obligations.BusyUntilTheCountedStep : Prop :=
  ∀ (f : Format) (b : Byte) (s : State) (k : Nat), Inv s → quiescent s = true → s.ps.stage = formatStage f →
    s.env.turns = [.rxByte b] → s.env.txWait = 0 → 0 < k → k < stepsFor f b →
    ∃ u, runSteps k s = .next u ∧ quiescent u = false

/-- R155: the whole behaviour on a sequence of bytes, each delivered when the block is quiescent, is the fold of
`OnByte`. -/
def Obligations.InputSequenceIsFoldOfOnByte : Prop :=
  ∀ (bs : List Byte) (f : Format) (s : State), Inv s → quiescent s = true → s.ps.stage = formatStage f →
    s.env.turns = bs.map .rxWhenReady → s.env.txWait = 0 →
    ∃ (n : Nat) (t : State), runSteps n s = .next t ∧ Inv t ∧ quiescent t = true ∧ t.env.turns = [] ∧
      t.ps.stage = formatStage (onBytes f bs).next ∧ t.txLog = s.txLog ++ (onBytes f bs).txGain ∧
      t.spiLog = s.spiLog ++ (onBytes f bs).spiGain

/-- R125: the same command twice gives two identical transactions: a digit `'2'` to `'9'` or `'0'`, from any quiescent
state between commands. -/
def Obligations.SameCommandTwice : Prop :=
  ∀ (b : Byte) (s : State), Inv s → quiescent s = true → s.ps.stage = .await1 → isDigit b = true → b ≠ 0x31 →
    s.env.turns = [.rxWhenReady b, .rxWhenReady b] → s.env.txWait = 0 →
    ∃ (n : Nat) (t : State) (cb : Byte), tableRead (b - 0x30#8).toNat = .ok cb ∧ runSteps n s = .next t ∧
      quiescent t = true ∧ t.env.turns = [] ∧ t.spiLog = s.spiLog ++ spiWrite cb ++ spiWrite cb

/-- R36: the invariant is kept by every step, whatever ENV does. -/
def Obligations.StepKeepsInvariant : Prop :=
  ∀ s t : State, Inv s → step s = .next t → Inv t

/-- R36 at reset. -/
def Obligations.ResetMeetsInvariant : Prop := Inv State.reset

/-- R153, R97, R179, R181: from a state of the invariant with FAULT empty a step always completes, and the only fault it can
raise is RxOverrun, on a byte delivered against the hazard rule. The model's choices in it: FAULT is empty after
`Reset(false)` (log entry 4, unsafe); a turn in which the block has no step, idle or halted, completes (log entry 8);
raising a fault is a next state (log entry 12). -/
def Obligations.OnlyOverrunCanStopTheBlock : Prop :=
  ∀ s : State, Inv s → s.fault = FaultSet.empty → ∃ t, step s = .next t ∧
    (t.fault = FaultSet.empty ∨ (t.fault = ⟨false, true, false⟩ ∧
      (∃ b, s.env.turns.head? = some (.rxByte b)) ∧ quiescent s = false))

/-- R97: whatever the state, a step other than a failed reset keeps: a resolved setting is at most 10. -/
def Obligations.ResolvedSettingInRange : Prop :=
  ∀ s t : State, (s.ps.stage = .resolved → s.ps.value.toNat ≤ 10) →
    s.env.turns.head? ≠ some (.reset false) → step s = .next t →
    t.ps.stage = .resolved → t.ps.value.toNat ≤ 10

/-- R29: the logs are append-only: every step but a reset extends both. -/
def Obligations.LogsOnlyGrow : Prop :=
  ∀ s t : State, step s = .next t → (∀ ok, s.env.turns.head? ≠ some (.reset ok)) →
    s.txLog <+: t.txLog ∧ s.spiLog <+: t.spiLog

/-- R30: FAULT is never made smaller but by reset, and while it is not empty no agent of the block has a step. R30 says no
more than that: that a turn of the block is then the fault `stopped` with the reasons, while ENV's events go on, is the
model's (log entry 12). -/
def Obligations.FaultsAreSticky : Prop :=
  (∀ s t : State, step s = .next t → (∀ ok, s.env.turns.head? ≠ some (.reset ok)) →
    (s.fault.contractViolation = true → t.fault.contractViolation = true) ∧
    (s.fault.rxOverrun = true → t.fault.rxOverrun = true) ∧
    (s.fault.engineMisuse = true → t.fault.engineMisuse = true)) ∧
  (∀ s : State, s.fault ≠ FaultSet.empty →
    (s.env.turns = [] ∨ s.env.turns.head? = some .main ∨ s.env.turns.head? = some .engine) →
    step s = .fault (.stopped s.fault))

/-- R22: CSN is written by driver steps 1 and 9 and, but for reset, by nothing else. -/
def Obligations.ChipSelectHasTwoWriters : Prop :=
  ∀ s t : State, step s = .next t → (∀ ok, s.env.turns.head? ≠ some (.reset ok)) → t.csn ≠ s.csn →
    s.seq.phase = .apply ∧
      (s.drv.step = .csAssert ∧ t.csn = false ∨ s.drv.step = .csDeassert ∧ t.csn = true)

/-- R43, R15, R19, R35: but for reset, the cell `LRB` is written and RXP set only on the delivery of a byte, which
writes no field of the parser; PS and CB are written only by MAIN's wake and prompt end. -/
def Obligations.SharedCellOwnership : Prop :=
  ∀ s t : State, step s = .next t → (∀ ok, s.env.turns.head? ≠ some (.reset ok)) →
    ((∃ a, memRead .cell a t ≠ memRead .cell a s) ∨ (s.rxp = false ∧ t.rxp = true) →
      quiescent s = true ∧
      ∃ b, (s.env.turns.head? = some (.rxByte b) ∨ s.env.turns.head? = some (.rxWhenReady b)) ∧
        t.lrb = b ∧ t.ps = s.ps ∧ t.cb = s.cb) ∧
    (t.ps ≠ s.ps ∨ t.cb ≠ s.cb →
      s.seq.phase = .idle ∧ s.rxp = true ∨ s.seq.phase = .prompt ∧ s.seq.idx = 21)

/-- R193, R147: from the start of a prompt, the transmit buffer free, 22 steps send the 21 bytes and end in IDLE with
the parser restarted. `env` after them is the model's (log entries 3, 8 and 9). -/
def Obligations.PromptInTwentyTwoSteps : Prop :=
  ∀ s : State, MainMoves s → s.seq = ⟨.prompt, 0⟩ → s.env.txWait = 0 →
    runSteps 22 s = .next { s with
      txLog := s.txLog ++ Config.prompt, seq := ⟨.idle, 0⟩, ps := ⟨.await1, s.ps.value⟩,
      cb := ⟨0, s.cb.b0, s.cb.b1⟩, env := ⟨[], 0, s.env.freeTick + 22⟩ }

/-- R148, R156, R196: in a quiescent state of the invariant with no byte to come nothing happens, for any number of
steps: a pending `'1'` waits for ever. R148 gives MAIN no step there; that each of these steps is a next state that
changes `env` alone is the model's (log entry 8), unsafe if they are read as steps of the hardware. -/
def Obligations.QuiescentWaitsForEver : Prop :=
  ∀ (s : State) (n : Nat), Inv s → quiescent s = true → s.env.turns = [] →
    runSteps n s = .next { s with env := ⟨[], s.env.txWait - n, s.env.freeTick + n⟩ }
end

