-- ==== Sys2Proof/Laws/State.lean ====
section
/-! SUPPORT. What each update of State leaves in each field. -/

namespace Sys2Proof.Machine

section
variable (s : State) (v : ParserState)
@[simp] theorem setPs_ps : (s.setPs v).ps = v := rfl
@[simp] theorem setPs_cb : (s.setPs v).cb = s.cb := rfl
@[simp] theorem setPs_lrb : (s.setPs v).lrb = s.lrb := rfl
@[simp] theorem setPs_rxp : (s.setPs v).rxp = s.rxp := rfl
@[simp] theorem setPs_seq : (s.setPs v).seq = s.seq := rfl
@[simp] theorem setPs_drv : (s.setPs v).drv = s.drv := rfl
@[simp] theorem setPs_csn : (s.setPs v).csn = s.csn := rfl
@[simp] theorem setPs_loop : (s.setPs v).loop = s.loop := rfl
@[simp] theorem setPs_eng : (s.setPs v).eng = s.eng := rfl
@[simp] theorem setPs_txReg : (s.setPs v).txReg = s.txReg := rfl
@[simp] theorem setPs_rxsh : (s.setPs v).rxsh = s.rxsh := rfl
@[simp] theorem setPs_shcnt : (s.setPs v).shcnt = s.shcnt := rfl
@[simp] theorem setPs_done : (s.setPs v).done = s.done := rfl
@[simp] theorem setPs_mosi : (s.setPs v).mosi = s.mosi := rfl
@[simp] theorem setPs_sclk : (s.setPs v).sclk = s.sclk := rfl
@[simp] theorem setPs_txLog : (s.setPs v).txLog = s.txLog := rfl
@[simp] theorem setPs_spiLog : (s.setPs v).spiLog = s.spiLog := rfl
@[simp] theorem setPs_fault : (s.setPs v).fault = s.fault := rfl
@[simp] theorem setPs_env : (s.setPs v).env = s.env := rfl
end

section
variable (s : State) (v : CommandBuffer)
@[simp] theorem setCb_ps : (s.setCb v).ps = s.ps := rfl
@[simp] theorem setCb_cb : (s.setCb v).cb = v := rfl
@[simp] theorem setCb_lrb : (s.setCb v).lrb = s.lrb := rfl
@[simp] theorem setCb_rxp : (s.setCb v).rxp = s.rxp := rfl
@[simp] theorem setCb_seq : (s.setCb v).seq = s.seq := rfl
@[simp] theorem setCb_drv : (s.setCb v).drv = s.drv := rfl
@[simp] theorem setCb_csn : (s.setCb v).csn = s.csn := rfl
@[simp] theorem setCb_loop : (s.setCb v).loop = s.loop := rfl
@[simp] theorem setCb_eng : (s.setCb v).eng = s.eng := rfl
@[simp] theorem setCb_txReg : (s.setCb v).txReg = s.txReg := rfl
@[simp] theorem setCb_rxsh : (s.setCb v).rxsh = s.rxsh := rfl
@[simp] theorem setCb_shcnt : (s.setCb v).shcnt = s.shcnt := rfl
@[simp] theorem setCb_done : (s.setCb v).done = s.done := rfl
@[simp] theorem setCb_mosi : (s.setCb v).mosi = s.mosi := rfl
@[simp] theorem setCb_sclk : (s.setCb v).sclk = s.sclk := rfl
@[simp] theorem setCb_txLog : (s.setCb v).txLog = s.txLog := rfl
@[simp] theorem setCb_spiLog : (s.setCb v).spiLog = s.spiLog := rfl
@[simp] theorem setCb_fault : (s.setCb v).fault = s.fault := rfl
@[simp] theorem setCb_env : (s.setCb v).env = s.env := rfl
end

section
variable (s : State) (v : Byte)
@[simp] theorem setLrb_ps : (s.setLrb v).ps = s.ps := rfl
@[simp] theorem setLrb_cb : (s.setLrb v).cb = s.cb := rfl
@[simp] theorem setLrb_lrb : (s.setLrb v).lrb = v := rfl
@[simp] theorem setLrb_rxp : (s.setLrb v).rxp = s.rxp := rfl
@[simp] theorem setLrb_seq : (s.setLrb v).seq = s.seq := rfl
@[simp] theorem setLrb_drv : (s.setLrb v).drv = s.drv := rfl
@[simp] theorem setLrb_csn : (s.setLrb v).csn = s.csn := rfl
@[simp] theorem setLrb_loop : (s.setLrb v).loop = s.loop := rfl
@[simp] theorem setLrb_eng : (s.setLrb v).eng = s.eng := rfl
@[simp] theorem setLrb_txReg : (s.setLrb v).txReg = s.txReg := rfl
@[simp] theorem setLrb_rxsh : (s.setLrb v).rxsh = s.rxsh := rfl
@[simp] theorem setLrb_shcnt : (s.setLrb v).shcnt = s.shcnt := rfl
@[simp] theorem setLrb_done : (s.setLrb v).done = s.done := rfl
@[simp] theorem setLrb_mosi : (s.setLrb v).mosi = s.mosi := rfl
@[simp] theorem setLrb_sclk : (s.setLrb v).sclk = s.sclk := rfl
@[simp] theorem setLrb_txLog : (s.setLrb v).txLog = s.txLog := rfl
@[simp] theorem setLrb_spiLog : (s.setLrb v).spiLog = s.spiLog := rfl
@[simp] theorem setLrb_fault : (s.setLrb v).fault = s.fault := rfl
@[simp] theorem setLrb_env : (s.setLrb v).env = s.env := rfl
end

section
variable (s : State) (v : Bool)
@[simp] theorem setRxp_ps : (s.setRxp v).ps = s.ps := rfl
@[simp] theorem setRxp_cb : (s.setRxp v).cb = s.cb := rfl
@[simp] theorem setRxp_lrb : (s.setRxp v).lrb = s.lrb := rfl
@[simp] theorem setRxp_rxp : (s.setRxp v).rxp = v := rfl
@[simp] theorem setRxp_seq : (s.setRxp v).seq = s.seq := rfl
@[simp] theorem setRxp_drv : (s.setRxp v).drv = s.drv := rfl
@[simp] theorem setRxp_csn : (s.setRxp v).csn = s.csn := rfl
@[simp] theorem setRxp_loop : (s.setRxp v).loop = s.loop := rfl
@[simp] theorem setRxp_eng : (s.setRxp v).eng = s.eng := rfl
@[simp] theorem setRxp_txReg : (s.setRxp v).txReg = s.txReg := rfl
@[simp] theorem setRxp_rxsh : (s.setRxp v).rxsh = s.rxsh := rfl
@[simp] theorem setRxp_shcnt : (s.setRxp v).shcnt = s.shcnt := rfl
@[simp] theorem setRxp_done : (s.setRxp v).done = s.done := rfl
@[simp] theorem setRxp_mosi : (s.setRxp v).mosi = s.mosi := rfl
@[simp] theorem setRxp_sclk : (s.setRxp v).sclk = s.sclk := rfl
@[simp] theorem setRxp_txLog : (s.setRxp v).txLog = s.txLog := rfl
@[simp] theorem setRxp_spiLog : (s.setRxp v).spiLog = s.spiLog := rfl
@[simp] theorem setRxp_fault : (s.setRxp v).fault = s.fault := rfl
@[simp] theorem setRxp_env : (s.setRxp v).env = s.env := rfl
end

section
variable (s : State) (v : Sequencer)
@[simp] theorem setSeq_ps : (s.setSeq v).ps = s.ps := rfl
@[simp] theorem setSeq_cb : (s.setSeq v).cb = s.cb := rfl
@[simp] theorem setSeq_lrb : (s.setSeq v).lrb = s.lrb := rfl
@[simp] theorem setSeq_rxp : (s.setSeq v).rxp = s.rxp := rfl
@[simp] theorem setSeq_seq : (s.setSeq v).seq = v := rfl
@[simp] theorem setSeq_drv : (s.setSeq v).drv = s.drv := rfl
@[simp] theorem setSeq_csn : (s.setSeq v).csn = s.csn := rfl
@[simp] theorem setSeq_loop : (s.setSeq v).loop = s.loop := rfl
@[simp] theorem setSeq_eng : (s.setSeq v).eng = s.eng := rfl
@[simp] theorem setSeq_txReg : (s.setSeq v).txReg = s.txReg := rfl
@[simp] theorem setSeq_rxsh : (s.setSeq v).rxsh = s.rxsh := rfl
@[simp] theorem setSeq_shcnt : (s.setSeq v).shcnt = s.shcnt := rfl
@[simp] theorem setSeq_done : (s.setSeq v).done = s.done := rfl
@[simp] theorem setSeq_mosi : (s.setSeq v).mosi = s.mosi := rfl
@[simp] theorem setSeq_sclk : (s.setSeq v).sclk = s.sclk := rfl
@[simp] theorem setSeq_txLog : (s.setSeq v).txLog = s.txLog := rfl
@[simp] theorem setSeq_spiLog : (s.setSeq v).spiLog = s.spiLog := rfl
@[simp] theorem setSeq_fault : (s.setSeq v).fault = s.fault := rfl
@[simp] theorem setSeq_env : (s.setSeq v).env = s.env := rfl
end

section
variable (s : State) (v : Driver)
@[simp] theorem setDrv_ps : (s.setDrv v).ps = s.ps := rfl
@[simp] theorem setDrv_cb : (s.setDrv v).cb = s.cb := rfl
@[simp] theorem setDrv_lrb : (s.setDrv v).lrb = s.lrb := rfl
@[simp] theorem setDrv_rxp : (s.setDrv v).rxp = s.rxp := rfl
@[simp] theorem setDrv_seq : (s.setDrv v).seq = s.seq := rfl
@[simp] theorem setDrv_drv : (s.setDrv v).drv = v := rfl
@[simp] theorem setDrv_csn : (s.setDrv v).csn = s.csn := rfl
@[simp] theorem setDrv_loop : (s.setDrv v).loop = s.loop := rfl
@[simp] theorem setDrv_eng : (s.setDrv v).eng = s.eng := rfl
@[simp] theorem setDrv_txReg : (s.setDrv v).txReg = s.txReg := rfl
@[simp] theorem setDrv_rxsh : (s.setDrv v).rxsh = s.rxsh := rfl
@[simp] theorem setDrv_shcnt : (s.setDrv v).shcnt = s.shcnt := rfl
@[simp] theorem setDrv_done : (s.setDrv v).done = s.done := rfl
@[simp] theorem setDrv_mosi : (s.setDrv v).mosi = s.mosi := rfl
@[simp] theorem setDrv_sclk : (s.setDrv v).sclk = s.sclk := rfl
@[simp] theorem setDrv_txLog : (s.setDrv v).txLog = s.txLog := rfl
@[simp] theorem setDrv_spiLog : (s.setDrv v).spiLog = s.spiLog := rfl
@[simp] theorem setDrv_fault : (s.setDrv v).fault = s.fault := rfl
@[simp] theorem setDrv_env : (s.setDrv v).env = s.env := rfl
end

section
variable (s : State) (v : Level)
@[simp] theorem setCsn_ps : (s.setCsn v).ps = s.ps := rfl
@[simp] theorem setCsn_cb : (s.setCsn v).cb = s.cb := rfl
@[simp] theorem setCsn_lrb : (s.setCsn v).lrb = s.lrb := rfl
@[simp] theorem setCsn_rxp : (s.setCsn v).rxp = s.rxp := rfl
@[simp] theorem setCsn_seq : (s.setCsn v).seq = s.seq := rfl
@[simp] theorem setCsn_drv : (s.setCsn v).drv = s.drv := rfl
@[simp] theorem setCsn_csn : (s.setCsn v).csn = v := rfl
@[simp] theorem setCsn_loop : (s.setCsn v).loop = s.loop := rfl
@[simp] theorem setCsn_eng : (s.setCsn v).eng = s.eng := rfl
@[simp] theorem setCsn_txReg : (s.setCsn v).txReg = s.txReg := rfl
@[simp] theorem setCsn_rxsh : (s.setCsn v).rxsh = s.rxsh := rfl
@[simp] theorem setCsn_shcnt : (s.setCsn v).shcnt = s.shcnt := rfl
@[simp] theorem setCsn_done : (s.setCsn v).done = s.done := rfl
@[simp] theorem setCsn_mosi : (s.setCsn v).mosi = s.mosi := rfl
@[simp] theorem setCsn_sclk : (s.setCsn v).sclk = s.sclk := rfl
@[simp] theorem setCsn_txLog : (s.setCsn v).txLog = s.txLog := rfl
@[simp] theorem setCsn_spiLog : (s.setCsn v).spiLog = s.spiLog := rfl
@[simp] theorem setCsn_fault : (s.setCsn v).fault = s.fault := rfl
@[simp] theorem setCsn_env : (s.setCsn v).env = s.env := rfl
end

section
variable (s : State) (v : Bool)
@[simp] theorem setLoop_ps : (s.setLoop v).ps = s.ps := rfl
@[simp] theorem setLoop_cb : (s.setLoop v).cb = s.cb := rfl
@[simp] theorem setLoop_lrb : (s.setLoop v).lrb = s.lrb := rfl
@[simp] theorem setLoop_rxp : (s.setLoop v).rxp = s.rxp := rfl
@[simp] theorem setLoop_seq : (s.setLoop v).seq = s.seq := rfl
@[simp] theorem setLoop_drv : (s.setLoop v).drv = s.drv := rfl
@[simp] theorem setLoop_csn : (s.setLoop v).csn = s.csn := rfl
@[simp] theorem setLoop_loop : (s.setLoop v).loop = v := rfl
@[simp] theorem setLoop_eng : (s.setLoop v).eng = s.eng := rfl
@[simp] theorem setLoop_txReg : (s.setLoop v).txReg = s.txReg := rfl
@[simp] theorem setLoop_rxsh : (s.setLoop v).rxsh = s.rxsh := rfl
@[simp] theorem setLoop_shcnt : (s.setLoop v).shcnt = s.shcnt := rfl
@[simp] theorem setLoop_done : (s.setLoop v).done = s.done := rfl
@[simp] theorem setLoop_mosi : (s.setLoop v).mosi = s.mosi := rfl
@[simp] theorem setLoop_sclk : (s.setLoop v).sclk = s.sclk := rfl
@[simp] theorem setLoop_txLog : (s.setLoop v).txLog = s.txLog := rfl
@[simp] theorem setLoop_spiLog : (s.setLoop v).spiLog = s.spiLog := rfl
@[simp] theorem setLoop_fault : (s.setLoop v).fault = s.fault := rfl
@[simp] theorem setLoop_env : (s.setLoop v).env = s.env := rfl
end

section
variable (s : State) (v : Bool)
@[simp] theorem setEng_ps : (s.setEng v).ps = s.ps := rfl
@[simp] theorem setEng_cb : (s.setEng v).cb = s.cb := rfl
@[simp] theorem setEng_lrb : (s.setEng v).lrb = s.lrb := rfl
@[simp] theorem setEng_rxp : (s.setEng v).rxp = s.rxp := rfl
@[simp] theorem setEng_seq : (s.setEng v).seq = s.seq := rfl
@[simp] theorem setEng_drv : (s.setEng v).drv = s.drv := rfl
@[simp] theorem setEng_csn : (s.setEng v).csn = s.csn := rfl
@[simp] theorem setEng_loop : (s.setEng v).loop = s.loop := rfl
@[simp] theorem setEng_eng : (s.setEng v).eng = v := rfl
@[simp] theorem setEng_txReg : (s.setEng v).txReg = s.txReg := rfl
@[simp] theorem setEng_rxsh : (s.setEng v).rxsh = s.rxsh := rfl
@[simp] theorem setEng_shcnt : (s.setEng v).shcnt = s.shcnt := rfl
@[simp] theorem setEng_done : (s.setEng v).done = s.done := rfl
@[simp] theorem setEng_mosi : (s.setEng v).mosi = s.mosi := rfl
@[simp] theorem setEng_sclk : (s.setEng v).sclk = s.sclk := rfl
@[simp] theorem setEng_txLog : (s.setEng v).txLog = s.txLog := rfl
@[simp] theorem setEng_spiLog : (s.setEng v).spiLog = s.spiLog := rfl
@[simp] theorem setEng_fault : (s.setEng v).fault = s.fault := rfl
@[simp] theorem setEng_env : (s.setEng v).env = s.env := rfl
end

section
variable (s : State) (v : Byte)
@[simp] theorem setTxReg_ps : (s.setTxReg v).ps = s.ps := rfl
@[simp] theorem setTxReg_cb : (s.setTxReg v).cb = s.cb := rfl
@[simp] theorem setTxReg_lrb : (s.setTxReg v).lrb = s.lrb := rfl
@[simp] theorem setTxReg_rxp : (s.setTxReg v).rxp = s.rxp := rfl
@[simp] theorem setTxReg_seq : (s.setTxReg v).seq = s.seq := rfl
@[simp] theorem setTxReg_drv : (s.setTxReg v).drv = s.drv := rfl
@[simp] theorem setTxReg_csn : (s.setTxReg v).csn = s.csn := rfl
@[simp] theorem setTxReg_loop : (s.setTxReg v).loop = s.loop := rfl
@[simp] theorem setTxReg_eng : (s.setTxReg v).eng = s.eng := rfl
@[simp] theorem setTxReg_txReg : (s.setTxReg v).txReg = v := rfl
@[simp] theorem setTxReg_rxsh : (s.setTxReg v).rxsh = s.rxsh := rfl
@[simp] theorem setTxReg_shcnt : (s.setTxReg v).shcnt = s.shcnt := rfl
@[simp] theorem setTxReg_done : (s.setTxReg v).done = s.done := rfl
@[simp] theorem setTxReg_mosi : (s.setTxReg v).mosi = s.mosi := rfl
@[simp] theorem setTxReg_sclk : (s.setTxReg v).sclk = s.sclk := rfl
@[simp] theorem setTxReg_txLog : (s.setTxReg v).txLog = s.txLog := rfl
@[simp] theorem setTxReg_spiLog : (s.setTxReg v).spiLog = s.spiLog := rfl
@[simp] theorem setTxReg_fault : (s.setTxReg v).fault = s.fault := rfl
@[simp] theorem setTxReg_env : (s.setTxReg v).env = s.env := rfl
end

section
variable (s : State) (v : Byte)
@[simp] theorem setRxsh_ps : (s.setRxsh v).ps = s.ps := rfl
@[simp] theorem setRxsh_cb : (s.setRxsh v).cb = s.cb := rfl
@[simp] theorem setRxsh_lrb : (s.setRxsh v).lrb = s.lrb := rfl
@[simp] theorem setRxsh_rxp : (s.setRxsh v).rxp = s.rxp := rfl
@[simp] theorem setRxsh_seq : (s.setRxsh v).seq = s.seq := rfl
@[simp] theorem setRxsh_drv : (s.setRxsh v).drv = s.drv := rfl
@[simp] theorem setRxsh_csn : (s.setRxsh v).csn = s.csn := rfl
@[simp] theorem setRxsh_loop : (s.setRxsh v).loop = s.loop := rfl
@[simp] theorem setRxsh_eng : (s.setRxsh v).eng = s.eng := rfl
@[simp] theorem setRxsh_txReg : (s.setRxsh v).txReg = s.txReg := rfl
@[simp] theorem setRxsh_rxsh : (s.setRxsh v).rxsh = v := rfl
@[simp] theorem setRxsh_shcnt : (s.setRxsh v).shcnt = s.shcnt := rfl
@[simp] theorem setRxsh_done : (s.setRxsh v).done = s.done := rfl
@[simp] theorem setRxsh_mosi : (s.setRxsh v).mosi = s.mosi := rfl
@[simp] theorem setRxsh_sclk : (s.setRxsh v).sclk = s.sclk := rfl
@[simp] theorem setRxsh_txLog : (s.setRxsh v).txLog = s.txLog := rfl
@[simp] theorem setRxsh_spiLog : (s.setRxsh v).spiLog = s.spiLog := rfl
@[simp] theorem setRxsh_fault : (s.setRxsh v).fault = s.fault := rfl
@[simp] theorem setRxsh_env : (s.setRxsh v).env = s.env := rfl
end

section
variable (s : State) (v : Fin 9)
@[simp] theorem setShcnt_ps : (s.setShcnt v).ps = s.ps := rfl
@[simp] theorem setShcnt_cb : (s.setShcnt v).cb = s.cb := rfl
@[simp] theorem setShcnt_lrb : (s.setShcnt v).lrb = s.lrb := rfl
@[simp] theorem setShcnt_rxp : (s.setShcnt v).rxp = s.rxp := rfl
@[simp] theorem setShcnt_seq : (s.setShcnt v).seq = s.seq := rfl
@[simp] theorem setShcnt_drv : (s.setShcnt v).drv = s.drv := rfl
@[simp] theorem setShcnt_csn : (s.setShcnt v).csn = s.csn := rfl
@[simp] theorem setShcnt_loop : (s.setShcnt v).loop = s.loop := rfl
@[simp] theorem setShcnt_eng : (s.setShcnt v).eng = s.eng := rfl
@[simp] theorem setShcnt_txReg : (s.setShcnt v).txReg = s.txReg := rfl
@[simp] theorem setShcnt_rxsh : (s.setShcnt v).rxsh = s.rxsh := rfl
@[simp] theorem setShcnt_shcnt : (s.setShcnt v).shcnt = v := rfl
@[simp] theorem setShcnt_done : (s.setShcnt v).done = s.done := rfl
@[simp] theorem setShcnt_mosi : (s.setShcnt v).mosi = s.mosi := rfl
@[simp] theorem setShcnt_sclk : (s.setShcnt v).sclk = s.sclk := rfl
@[simp] theorem setShcnt_txLog : (s.setShcnt v).txLog = s.txLog := rfl
@[simp] theorem setShcnt_spiLog : (s.setShcnt v).spiLog = s.spiLog := rfl
@[simp] theorem setShcnt_fault : (s.setShcnt v).fault = s.fault := rfl
@[simp] theorem setShcnt_env : (s.setShcnt v).env = s.env := rfl
end

section
variable (s : State) (v : Bool)
@[simp] theorem setDone_ps : (s.setDone v).ps = s.ps := rfl
@[simp] theorem setDone_cb : (s.setDone v).cb = s.cb := rfl
@[simp] theorem setDone_lrb : (s.setDone v).lrb = s.lrb := rfl
@[simp] theorem setDone_rxp : (s.setDone v).rxp = s.rxp := rfl
@[simp] theorem setDone_seq : (s.setDone v).seq = s.seq := rfl
@[simp] theorem setDone_drv : (s.setDone v).drv = s.drv := rfl
@[simp] theorem setDone_csn : (s.setDone v).csn = s.csn := rfl
@[simp] theorem setDone_loop : (s.setDone v).loop = s.loop := rfl
@[simp] theorem setDone_eng : (s.setDone v).eng = s.eng := rfl
@[simp] theorem setDone_txReg : (s.setDone v).txReg = s.txReg := rfl
@[simp] theorem setDone_rxsh : (s.setDone v).rxsh = s.rxsh := rfl
@[simp] theorem setDone_shcnt : (s.setDone v).shcnt = s.shcnt := rfl
@[simp] theorem setDone_done : (s.setDone v).done = v := rfl
@[simp] theorem setDone_mosi : (s.setDone v).mosi = s.mosi := rfl
@[simp] theorem setDone_sclk : (s.setDone v).sclk = s.sclk := rfl
@[simp] theorem setDone_txLog : (s.setDone v).txLog = s.txLog := rfl
@[simp] theorem setDone_spiLog : (s.setDone v).spiLog = s.spiLog := rfl
@[simp] theorem setDone_fault : (s.setDone v).fault = s.fault := rfl
@[simp] theorem setDone_env : (s.setDone v).env = s.env := rfl
end

section
variable (s : State) (v : Level)
@[simp] theorem setMosi_ps : (s.setMosi v).ps = s.ps := rfl
@[simp] theorem setMosi_cb : (s.setMosi v).cb = s.cb := rfl
@[simp] theorem setMosi_lrb : (s.setMosi v).lrb = s.lrb := rfl
@[simp] theorem setMosi_rxp : (s.setMosi v).rxp = s.rxp := rfl
@[simp] theorem setMosi_seq : (s.setMosi v).seq = s.seq := rfl
@[simp] theorem setMosi_drv : (s.setMosi v).drv = s.drv := rfl
@[simp] theorem setMosi_csn : (s.setMosi v).csn = s.csn := rfl
@[simp] theorem setMosi_loop : (s.setMosi v).loop = s.loop := rfl
@[simp] theorem setMosi_eng : (s.setMosi v).eng = s.eng := rfl
@[simp] theorem setMosi_txReg : (s.setMosi v).txReg = s.txReg := rfl
@[simp] theorem setMosi_rxsh : (s.setMosi v).rxsh = s.rxsh := rfl
@[simp] theorem setMosi_shcnt : (s.setMosi v).shcnt = s.shcnt := rfl
@[simp] theorem setMosi_done : (s.setMosi v).done = s.done := rfl
@[simp] theorem setMosi_mosi : (s.setMosi v).mosi = v := rfl
@[simp] theorem setMosi_sclk : (s.setMosi v).sclk = s.sclk := rfl
@[simp] theorem setMosi_txLog : (s.setMosi v).txLog = s.txLog := rfl
@[simp] theorem setMosi_spiLog : (s.setMosi v).spiLog = s.spiLog := rfl
@[simp] theorem setMosi_fault : (s.setMosi v).fault = s.fault := rfl
@[simp] theorem setMosi_env : (s.setMosi v).env = s.env := rfl
end

section
variable (s : State) (v : Level)
@[simp] theorem setSclk_ps : (s.setSclk v).ps = s.ps := rfl
@[simp] theorem setSclk_cb : (s.setSclk v).cb = s.cb := rfl
@[simp] theorem setSclk_lrb : (s.setSclk v).lrb = s.lrb := rfl
@[simp] theorem setSclk_rxp : (s.setSclk v).rxp = s.rxp := rfl
@[simp] theorem setSclk_seq : (s.setSclk v).seq = s.seq := rfl
@[simp] theorem setSclk_drv : (s.setSclk v).drv = s.drv := rfl
@[simp] theorem setSclk_csn : (s.setSclk v).csn = s.csn := rfl
@[simp] theorem setSclk_loop : (s.setSclk v).loop = s.loop := rfl
@[simp] theorem setSclk_eng : (s.setSclk v).eng = s.eng := rfl
@[simp] theorem setSclk_txReg : (s.setSclk v).txReg = s.txReg := rfl
@[simp] theorem setSclk_rxsh : (s.setSclk v).rxsh = s.rxsh := rfl
@[simp] theorem setSclk_shcnt : (s.setSclk v).shcnt = s.shcnt := rfl
@[simp] theorem setSclk_done : (s.setSclk v).done = s.done := rfl
@[simp] theorem setSclk_mosi : (s.setSclk v).mosi = s.mosi := rfl
@[simp] theorem setSclk_sclk : (s.setSclk v).sclk = v := rfl
@[simp] theorem setSclk_txLog : (s.setSclk v).txLog = s.txLog := rfl
@[simp] theorem setSclk_spiLog : (s.setSclk v).spiLog = s.spiLog := rfl
@[simp] theorem setSclk_fault : (s.setSclk v).fault = s.fault := rfl
@[simp] theorem setSclk_env : (s.setSclk v).env = s.env := rfl
end

section
variable (s : State) (v : List Byte)
@[simp] theorem setTxLog_ps : (s.setTxLog v).ps = s.ps := rfl
@[simp] theorem setTxLog_cb : (s.setTxLog v).cb = s.cb := rfl
@[simp] theorem setTxLog_lrb : (s.setTxLog v).lrb = s.lrb := rfl
@[simp] theorem setTxLog_rxp : (s.setTxLog v).rxp = s.rxp := rfl
@[simp] theorem setTxLog_seq : (s.setTxLog v).seq = s.seq := rfl
@[simp] theorem setTxLog_drv : (s.setTxLog v).drv = s.drv := rfl
@[simp] theorem setTxLog_csn : (s.setTxLog v).csn = s.csn := rfl
@[simp] theorem setTxLog_loop : (s.setTxLog v).loop = s.loop := rfl
@[simp] theorem setTxLog_eng : (s.setTxLog v).eng = s.eng := rfl
@[simp] theorem setTxLog_txReg : (s.setTxLog v).txReg = s.txReg := rfl
@[simp] theorem setTxLog_rxsh : (s.setTxLog v).rxsh = s.rxsh := rfl
@[simp] theorem setTxLog_shcnt : (s.setTxLog v).shcnt = s.shcnt := rfl
@[simp] theorem setTxLog_done : (s.setTxLog v).done = s.done := rfl
@[simp] theorem setTxLog_mosi : (s.setTxLog v).mosi = s.mosi := rfl
@[simp] theorem setTxLog_sclk : (s.setTxLog v).sclk = s.sclk := rfl
@[simp] theorem setTxLog_txLog : (s.setTxLog v).txLog = v := rfl
@[simp] theorem setTxLog_spiLog : (s.setTxLog v).spiLog = s.spiLog := rfl
@[simp] theorem setTxLog_fault : (s.setTxLog v).fault = s.fault := rfl
@[simp] theorem setTxLog_env : (s.setTxLog v).env = s.env := rfl
end

section
variable (s : State) (v : List BusEvent)
@[simp] theorem setSpiLog_ps : (s.setSpiLog v).ps = s.ps := rfl
@[simp] theorem setSpiLog_cb : (s.setSpiLog v).cb = s.cb := rfl
@[simp] theorem setSpiLog_lrb : (s.setSpiLog v).lrb = s.lrb := rfl
@[simp] theorem setSpiLog_rxp : (s.setSpiLog v).rxp = s.rxp := rfl
@[simp] theorem setSpiLog_seq : (s.setSpiLog v).seq = s.seq := rfl
@[simp] theorem setSpiLog_drv : (s.setSpiLog v).drv = s.drv := rfl
@[simp] theorem setSpiLog_csn : (s.setSpiLog v).csn = s.csn := rfl
@[simp] theorem setSpiLog_loop : (s.setSpiLog v).loop = s.loop := rfl
@[simp] theorem setSpiLog_eng : (s.setSpiLog v).eng = s.eng := rfl
@[simp] theorem setSpiLog_txReg : (s.setSpiLog v).txReg = s.txReg := rfl
@[simp] theorem setSpiLog_rxsh : (s.setSpiLog v).rxsh = s.rxsh := rfl
@[simp] theorem setSpiLog_shcnt : (s.setSpiLog v).shcnt = s.shcnt := rfl
@[simp] theorem setSpiLog_done : (s.setSpiLog v).done = s.done := rfl
@[simp] theorem setSpiLog_mosi : (s.setSpiLog v).mosi = s.mosi := rfl
@[simp] theorem setSpiLog_sclk : (s.setSpiLog v).sclk = s.sclk := rfl
@[simp] theorem setSpiLog_txLog : (s.setSpiLog v).txLog = s.txLog := rfl
@[simp] theorem setSpiLog_spiLog : (s.setSpiLog v).spiLog = v := rfl
@[simp] theorem setSpiLog_fault : (s.setSpiLog v).fault = s.fault := rfl
@[simp] theorem setSpiLog_env : (s.setSpiLog v).env = s.env := rfl
end

section
variable (s : State) (v : FaultSet)
@[simp] theorem setFault_ps : (s.setFault v).ps = s.ps := rfl
@[simp] theorem setFault_cb : (s.setFault v).cb = s.cb := rfl
@[simp] theorem setFault_lrb : (s.setFault v).lrb = s.lrb := rfl
@[simp] theorem setFault_rxp : (s.setFault v).rxp = s.rxp := rfl
@[simp] theorem setFault_seq : (s.setFault v).seq = s.seq := rfl
@[simp] theorem setFault_drv : (s.setFault v).drv = s.drv := rfl
@[simp] theorem setFault_csn : (s.setFault v).csn = s.csn := rfl
@[simp] theorem setFault_loop : (s.setFault v).loop = s.loop := rfl
@[simp] theorem setFault_eng : (s.setFault v).eng = s.eng := rfl
@[simp] theorem setFault_txReg : (s.setFault v).txReg = s.txReg := rfl
@[simp] theorem setFault_rxsh : (s.setFault v).rxsh = s.rxsh := rfl
@[simp] theorem setFault_shcnt : (s.setFault v).shcnt = s.shcnt := rfl
@[simp] theorem setFault_done : (s.setFault v).done = s.done := rfl
@[simp] theorem setFault_mosi : (s.setFault v).mosi = s.mosi := rfl
@[simp] theorem setFault_sclk : (s.setFault v).sclk = s.sclk := rfl
@[simp] theorem setFault_txLog : (s.setFault v).txLog = s.txLog := rfl
@[simp] theorem setFault_spiLog : (s.setFault v).spiLog = s.spiLog := rfl
@[simp] theorem setFault_fault : (s.setFault v).fault = v := rfl
@[simp] theorem setFault_env : (s.setFault v).env = s.env := rfl
end

section
variable (s : State) (v : Env)
@[simp] theorem setEnv_ps : (s.setEnv v).ps = s.ps := rfl
@[simp] theorem setEnv_cb : (s.setEnv v).cb = s.cb := rfl
@[simp] theorem setEnv_lrb : (s.setEnv v).lrb = s.lrb := rfl
@[simp] theorem setEnv_rxp : (s.setEnv v).rxp = s.rxp := rfl
@[simp] theorem setEnv_seq : (s.setEnv v).seq = s.seq := rfl
@[simp] theorem setEnv_drv : (s.setEnv v).drv = s.drv := rfl
@[simp] theorem setEnv_csn : (s.setEnv v).csn = s.csn := rfl
@[simp] theorem setEnv_loop : (s.setEnv v).loop = s.loop := rfl
@[simp] theorem setEnv_eng : (s.setEnv v).eng = s.eng := rfl
@[simp] theorem setEnv_txReg : (s.setEnv v).txReg = s.txReg := rfl
@[simp] theorem setEnv_rxsh : (s.setEnv v).rxsh = s.rxsh := rfl
@[simp] theorem setEnv_shcnt : (s.setEnv v).shcnt = s.shcnt := rfl
@[simp] theorem setEnv_done : (s.setEnv v).done = s.done := rfl
@[simp] theorem setEnv_mosi : (s.setEnv v).mosi = s.mosi := rfl
@[simp] theorem setEnv_sclk : (s.setEnv v).sclk = s.sclk := rfl
@[simp] theorem setEnv_txLog : (s.setEnv v).txLog = s.txLog := rfl
@[simp] theorem setEnv_spiLog : (s.setEnv v).spiLog = s.spiLog := rfl
@[simp] theorem setEnv_fault : (s.setEnv v).fault = s.fault := rfl
@[simp] theorem setEnv_env : (s.setEnv v).env = v := rfl
end

end Sys2Proof.Machine
end

