-- ==== Sys2Proof/Laws/Ops.lean ====
section
/-! SUPPORT. What each named operation leaves in each field of State: one lemma per operation and field. -/

namespace Sys2Proof.Machine

section
variable (s : State)
@[simp] theorem raiseRxp_ps : (raiseRxp s).ps = s.ps := rfl
@[simp] theorem raiseRxp_cb : (raiseRxp s).cb = s.cb := rfl
@[simp] theorem raiseRxp_lrb : (raiseRxp s).lrb = s.lrb := rfl
@[simp] theorem raiseRxp_rxp : (raiseRxp s).rxp = true := rfl
@[simp] theorem raiseRxp_seq : (raiseRxp s).seq = s.seq := rfl
@[simp] theorem raiseRxp_drv : (raiseRxp s).drv = s.drv := rfl
@[simp] theorem raiseRxp_csn : (raiseRxp s).csn = s.csn := rfl
@[simp] theorem raiseRxp_loop : (raiseRxp s).loop = s.loop := rfl
@[simp] theorem raiseRxp_eng : (raiseRxp s).eng = s.eng := rfl
@[simp] theorem raiseRxp_txReg : (raiseRxp s).txReg = s.txReg := rfl
@[simp] theorem raiseRxp_rxsh : (raiseRxp s).rxsh = s.rxsh := rfl
@[simp] theorem raiseRxp_shcnt : (raiseRxp s).shcnt = s.shcnt := rfl
@[simp] theorem raiseRxp_done : (raiseRxp s).done = s.done := rfl
@[simp] theorem raiseRxp_mosi : (raiseRxp s).mosi = s.mosi := rfl
@[simp] theorem raiseRxp_sclk : (raiseRxp s).sclk = s.sclk := rfl
@[simp] theorem raiseRxp_txLog : (raiseRxp s).txLog = s.txLog := rfl
@[simp] theorem raiseRxp_spiLog : (raiseRxp s).spiLog = s.spiLog := rfl
@[simp] theorem raiseRxp_fault : (raiseRxp s).fault = s.fault := rfl
@[simp] theorem raiseRxp_env : (raiseRxp s).env = s.env := rfl
end

section
variable (s : State)
@[simp] theorem clearRxp_ps : (clearRxp s).ps = s.ps := rfl
@[simp] theorem clearRxp_cb : (clearRxp s).cb = s.cb := rfl
@[simp] theorem clearRxp_lrb : (clearRxp s).lrb = s.lrb := rfl
@[simp] theorem clearRxp_rxp : (clearRxp s).rxp = false := rfl
@[simp] theorem clearRxp_seq : (clearRxp s).seq = s.seq := rfl
@[simp] theorem clearRxp_drv : (clearRxp s).drv = s.drv := rfl
@[simp] theorem clearRxp_csn : (clearRxp s).csn = s.csn := rfl
@[simp] theorem clearRxp_loop : (clearRxp s).loop = s.loop := rfl
@[simp] theorem clearRxp_eng : (clearRxp s).eng = s.eng := rfl
@[simp] theorem clearRxp_txReg : (clearRxp s).txReg = s.txReg := rfl
@[simp] theorem clearRxp_rxsh : (clearRxp s).rxsh = s.rxsh := rfl
@[simp] theorem clearRxp_shcnt : (clearRxp s).shcnt = s.shcnt := rfl
@[simp] theorem clearRxp_done : (clearRxp s).done = s.done := rfl
@[simp] theorem clearRxp_mosi : (clearRxp s).mosi = s.mosi := rfl
@[simp] theorem clearRxp_sclk : (clearRxp s).sclk = s.sclk := rfl
@[simp] theorem clearRxp_txLog : (clearRxp s).txLog = s.txLog := rfl
@[simp] theorem clearRxp_spiLog : (clearRxp s).spiLog = s.spiLog := rfl
@[simp] theorem clearRxp_fault : (clearRxp s).fault = s.fault := rfl
@[simp] theorem clearRxp_env : (clearRxp s).env = s.env := rfl
end

section
variable (s : State)
@[simp] theorem clearDone_ps : (clearDone s).ps = s.ps := rfl
@[simp] theorem clearDone_cb : (clearDone s).cb = s.cb := rfl
@[simp] theorem clearDone_lrb : (clearDone s).lrb = s.lrb := rfl
@[simp] theorem clearDone_rxp : (clearDone s).rxp = s.rxp := rfl
@[simp] theorem clearDone_seq : (clearDone s).seq = s.seq := rfl
@[simp] theorem clearDone_drv : (clearDone s).drv = s.drv := rfl
@[simp] theorem clearDone_csn : (clearDone s).csn = s.csn := rfl
@[simp] theorem clearDone_loop : (clearDone s).loop = s.loop := rfl
@[simp] theorem clearDone_eng : (clearDone s).eng = s.eng := rfl
@[simp] theorem clearDone_txReg : (clearDone s).txReg = s.txReg := rfl
@[simp] theorem clearDone_rxsh : (clearDone s).rxsh = s.rxsh := rfl
@[simp] theorem clearDone_shcnt : (clearDone s).shcnt = s.shcnt := rfl
@[simp] theorem clearDone_done : (clearDone s).done = false := rfl
@[simp] theorem clearDone_mosi : (clearDone s).mosi = s.mosi := rfl
@[simp] theorem clearDone_sclk : (clearDone s).sclk = s.sclk := rfl
@[simp] theorem clearDone_txLog : (clearDone s).txLog = s.txLog := rfl
@[simp] theorem clearDone_spiLog : (clearDone s).spiLog = s.spiLog := rfl
@[simp] theorem clearDone_fault : (clearDone s).fault = s.fault := rfl
@[simp] theorem clearDone_env : (clearDone s).env = s.env := rfl
end

section
variable (s : State) (r : FaultReason)
@[simp] theorem raise_ps : (raise r s).ps = s.ps := rfl
@[simp] theorem raise_cb : (raise r s).cb = s.cb := rfl
@[simp] theorem raise_lrb : (raise r s).lrb = s.lrb := rfl
@[simp] theorem raise_rxp : (raise r s).rxp = s.rxp := rfl
@[simp] theorem raise_seq : (raise r s).seq = s.seq := rfl
@[simp] theorem raise_drv : (raise r s).drv = s.drv := rfl
@[simp] theorem raise_csn : (raise r s).csn = s.csn := rfl
@[simp] theorem raise_loop : (raise r s).loop = s.loop := rfl
@[simp] theorem raise_eng : (raise r s).eng = s.eng := rfl
@[simp] theorem raise_txReg : (raise r s).txReg = s.txReg := rfl
@[simp] theorem raise_rxsh : (raise r s).rxsh = s.rxsh := rfl
@[simp] theorem raise_shcnt : (raise r s).shcnt = s.shcnt := rfl
@[simp] theorem raise_done : (raise r s).done = s.done := rfl
@[simp] theorem raise_mosi : (raise r s).mosi = s.mosi := rfl
@[simp] theorem raise_sclk : (raise r s).sclk = s.sclk := rfl
@[simp] theorem raise_txLog : (raise r s).txLog = s.txLog := rfl
@[simp] theorem raise_spiLog : (raise r s).spiLog = s.spiLog := rfl
@[simp] theorem raise_fault : (raise r s).fault = addReason r s.fault := rfl
@[simp] theorem raise_env : (raise r s).env = s.env := rfl
end

section
variable (s : State) (b : Byte)
@[simp] theorem tx_ps : (tx b s).ps = s.ps := rfl
@[simp] theorem tx_cb : (tx b s).cb = s.cb := rfl
@[simp] theorem tx_lrb : (tx b s).lrb = s.lrb := rfl
@[simp] theorem tx_rxp : (tx b s).rxp = s.rxp := rfl
@[simp] theorem tx_seq : (tx b s).seq = s.seq := rfl
@[simp] theorem tx_drv : (tx b s).drv = s.drv := rfl
@[simp] theorem tx_csn : (tx b s).csn = s.csn := rfl
@[simp] theorem tx_loop : (tx b s).loop = s.loop := rfl
@[simp] theorem tx_eng : (tx b s).eng = s.eng := rfl
@[simp] theorem tx_txReg : (tx b s).txReg = s.txReg := rfl
@[simp] theorem tx_rxsh : (tx b s).rxsh = s.rxsh := rfl
@[simp] theorem tx_shcnt : (tx b s).shcnt = s.shcnt := rfl
@[simp] theorem tx_done : (tx b s).done = s.done := rfl
@[simp] theorem tx_mosi : (tx b s).mosi = s.mosi := rfl
@[simp] theorem tx_sclk : (tx b s).sclk = s.sclk := rfl
@[simp] theorem tx_txLog : (tx b s).txLog = s.txLog ++ [b] := rfl
@[simp] theorem tx_spiLog : (tx b s).spiLog = s.spiLog := rfl
@[simp] theorem tx_fault : (tx b s).fault = s.fault := rfl
@[simp] theorem tx_env : (tx b s).env = s.env := rfl
end

section
variable (s : State) (e : BusEvent)
@[simp] theorem spi_ps : (spi e s).ps = s.ps := rfl
@[simp] theorem spi_cb : (spi e s).cb = s.cb := rfl
@[simp] theorem spi_lrb : (spi e s).lrb = s.lrb := rfl
@[simp] theorem spi_rxp : (spi e s).rxp = s.rxp := rfl
@[simp] theorem spi_seq : (spi e s).seq = s.seq := rfl
@[simp] theorem spi_drv : (spi e s).drv = s.drv := rfl
@[simp] theorem spi_csn : (spi e s).csn = s.csn := rfl
@[simp] theorem spi_loop : (spi e s).loop = s.loop := rfl
@[simp] theorem spi_eng : (spi e s).eng = s.eng := rfl
@[simp] theorem spi_txReg : (spi e s).txReg = s.txReg := rfl
@[simp] theorem spi_rxsh : (spi e s).rxsh = s.rxsh := rfl
@[simp] theorem spi_shcnt : (spi e s).shcnt = s.shcnt := rfl
@[simp] theorem spi_done : (spi e s).done = s.done := rfl
@[simp] theorem spi_mosi : (spi e s).mosi = s.mosi := rfl
@[simp] theorem spi_sclk : (spi e s).sclk = s.sclk := rfl
@[simp] theorem spi_txLog : (spi e s).txLog = s.txLog := rfl
@[simp] theorem spi_spiLog : (spi e s).spiLog = s.spiLog ++ [e] := rfl
@[simp] theorem spi_fault : (spi e s).fault = s.fault := rfl
@[simp] theorem spi_env : (spi e s).env = s.env := rfl
end

section
variable (s : State) (b : Byte)
@[simp] theorem cellWrite_ps : (cellWrite b s).ps = s.ps := rfl
@[simp] theorem cellWrite_cb : (cellWrite b s).cb = s.cb := rfl
@[simp] theorem cellWrite_lrb : (cellWrite b s).lrb = b := rfl
@[simp] theorem cellWrite_rxp : (cellWrite b s).rxp = s.rxp := rfl
@[simp] theorem cellWrite_seq : (cellWrite b s).seq = s.seq := rfl
@[simp] theorem cellWrite_drv : (cellWrite b s).drv = s.drv := rfl
@[simp] theorem cellWrite_csn : (cellWrite b s).csn = s.csn := rfl
@[simp] theorem cellWrite_loop : (cellWrite b s).loop = s.loop := rfl
@[simp] theorem cellWrite_eng : (cellWrite b s).eng = s.eng := rfl
@[simp] theorem cellWrite_txReg : (cellWrite b s).txReg = s.txReg := rfl
@[simp] theorem cellWrite_rxsh : (cellWrite b s).rxsh = s.rxsh := rfl
@[simp] theorem cellWrite_shcnt : (cellWrite b s).shcnt = s.shcnt := rfl
@[simp] theorem cellWrite_done : (cellWrite b s).done = s.done := rfl
@[simp] theorem cellWrite_mosi : (cellWrite b s).mosi = s.mosi := rfl
@[simp] theorem cellWrite_sclk : (cellWrite b s).sclk = s.sclk := rfl
@[simp] theorem cellWrite_txLog : (cellWrite b s).txLog = s.txLog := rfl
@[simp] theorem cellWrite_spiLog : (cellWrite b s).spiLog = s.spiLog := rfl
@[simp] theorem cellWrite_fault : (cellWrite b s).fault = s.fault := rfl
@[simp] theorem cellWrite_env : (cellWrite b s).env = s.env := rfl
end

section
variable (s : State) (p : Phase)
@[simp] theorem enter_ps : (enter p s).ps = s.ps := rfl
@[simp] theorem enter_cb : (enter p s).cb = s.cb := rfl
@[simp] theorem enter_lrb : (enter p s).lrb = s.lrb := rfl
@[simp] theorem enter_rxp : (enter p s).rxp = s.rxp := rfl
@[simp] theorem enter_seq : (enter p s).seq = ⟨p, 0⟩ := rfl
@[simp] theorem enter_drv : (enter p s).drv = s.drv := rfl
@[simp] theorem enter_csn : (enter p s).csn = s.csn := rfl
@[simp] theorem enter_loop : (enter p s).loop = s.loop := rfl
@[simp] theorem enter_eng : (enter p s).eng = s.eng := rfl
@[simp] theorem enter_txReg : (enter p s).txReg = s.txReg := rfl
@[simp] theorem enter_rxsh : (enter p s).rxsh = s.rxsh := rfl
@[simp] theorem enter_shcnt : (enter p s).shcnt = s.shcnt := rfl
@[simp] theorem enter_done : (enter p s).done = s.done := rfl
@[simp] theorem enter_mosi : (enter p s).mosi = s.mosi := rfl
@[simp] theorem enter_sclk : (enter p s).sclk = s.sclk := rfl
@[simp] theorem enter_txLog : (enter p s).txLog = s.txLog := rfl
@[simp] theorem enter_spiLog : (enter p s).spiLog = s.spiLog := rfl
@[simp] theorem enter_fault : (enter p s).fault = s.fault := rfl
@[simp] theorem enter_env : (enter p s).env = s.env := rfl
end

section
variable (s : State) (p : Phase)
@[simp] theorem setPhase_ps : (setPhase p s).ps = s.ps := rfl
@[simp] theorem setPhase_cb : (setPhase p s).cb = s.cb := rfl
@[simp] theorem setPhase_lrb : (setPhase p s).lrb = s.lrb := rfl
@[simp] theorem setPhase_rxp : (setPhase p s).rxp = s.rxp := rfl
@[simp] theorem setPhase_seq : (setPhase p s).seq = ⟨p, s.seq.idx⟩ := rfl
@[simp] theorem setPhase_drv : (setPhase p s).drv = s.drv := rfl
@[simp] theorem setPhase_csn : (setPhase p s).csn = s.csn := rfl
@[simp] theorem setPhase_loop : (setPhase p s).loop = s.loop := rfl
@[simp] theorem setPhase_eng : (setPhase p s).eng = s.eng := rfl
@[simp] theorem setPhase_txReg : (setPhase p s).txReg = s.txReg := rfl
@[simp] theorem setPhase_rxsh : (setPhase p s).rxsh = s.rxsh := rfl
@[simp] theorem setPhase_shcnt : (setPhase p s).shcnt = s.shcnt := rfl
@[simp] theorem setPhase_done : (setPhase p s).done = s.done := rfl
@[simp] theorem setPhase_mosi : (setPhase p s).mosi = s.mosi := rfl
@[simp] theorem setPhase_sclk : (setPhase p s).sclk = s.sclk := rfl
@[simp] theorem setPhase_txLog : (setPhase p s).txLog = s.txLog := rfl
@[simp] theorem setPhase_spiLog : (setPhase p s).spiLog = s.spiLog := rfl
@[simp] theorem setPhase_fault : (setPhase p s).fault = s.fault := rfl
@[simp] theorem setPhase_env : (setPhase p s).env = s.env := rfl
end

section
variable (s : State) (k : DrvStep)
@[simp] theorem goStep_ps : (goStep k s).ps = s.ps := rfl
@[simp] theorem goStep_cb : (goStep k s).cb = s.cb := rfl
@[simp] theorem goStep_lrb : (goStep k s).lrb = s.lrb := rfl
@[simp] theorem goStep_rxp : (goStep k s).rxp = s.rxp := rfl
@[simp] theorem goStep_seq : (goStep k s).seq = s.seq := rfl
@[simp] theorem goStep_drv : (goStep k s).drv = ⟨k, s.drv.cb⟩ := rfl
@[simp] theorem goStep_csn : (goStep k s).csn = s.csn := rfl
@[simp] theorem goStep_loop : (goStep k s).loop = s.loop := rfl
@[simp] theorem goStep_eng : (goStep k s).eng = s.eng := rfl
@[simp] theorem goStep_txReg : (goStep k s).txReg = s.txReg := rfl
@[simp] theorem goStep_rxsh : (goStep k s).rxsh = s.rxsh := rfl
@[simp] theorem goStep_shcnt : (goStep k s).shcnt = s.shcnt := rfl
@[simp] theorem goStep_done : (goStep k s).done = s.done := rfl
@[simp] theorem goStep_mosi : (goStep k s).mosi = s.mosi := rfl
@[simp] theorem goStep_sclk : (goStep k s).sclk = s.sclk := rfl
@[simp] theorem goStep_txLog : (goStep k s).txLog = s.txLog := rfl
@[simp] theorem goStep_spiLog : (goStep k s).spiLog = s.spiLog := rfl
@[simp] theorem goStep_fault : (goStep k s).fault = s.fault := rfl
@[simp] theorem goStep_env : (goStep k s).env = s.env := rfl
end

section
variable (s : State) (b : Byte)
@[simp] theorem recordFirst_ps : (recordFirst b s).ps = s.ps := rfl
@[simp] theorem recordFirst_cb : (recordFirst b s).cb = ⟨1, b, s.cb.b1⟩ := rfl
@[simp] theorem recordFirst_lrb : (recordFirst b s).lrb = s.lrb := rfl
@[simp] theorem recordFirst_rxp : (recordFirst b s).rxp = s.rxp := rfl
@[simp] theorem recordFirst_seq : (recordFirst b s).seq = s.seq := rfl
@[simp] theorem recordFirst_drv : (recordFirst b s).drv = s.drv := rfl
@[simp] theorem recordFirst_csn : (recordFirst b s).csn = s.csn := rfl
@[simp] theorem recordFirst_loop : (recordFirst b s).loop = s.loop := rfl
@[simp] theorem recordFirst_eng : (recordFirst b s).eng = s.eng := rfl
@[simp] theorem recordFirst_txReg : (recordFirst b s).txReg = s.txReg := rfl
@[simp] theorem recordFirst_rxsh : (recordFirst b s).rxsh = s.rxsh := rfl
@[simp] theorem recordFirst_shcnt : (recordFirst b s).shcnt = s.shcnt := rfl
@[simp] theorem recordFirst_done : (recordFirst b s).done = s.done := rfl
@[simp] theorem recordFirst_mosi : (recordFirst b s).mosi = s.mosi := rfl
@[simp] theorem recordFirst_sclk : (recordFirst b s).sclk = s.sclk := rfl
@[simp] theorem recordFirst_txLog : (recordFirst b s).txLog = s.txLog := rfl
@[simp] theorem recordFirst_spiLog : (recordFirst b s).spiLog = s.spiLog := rfl
@[simp] theorem recordFirst_fault : (recordFirst b s).fault = s.fault := rfl
@[simp] theorem recordFirst_env : (recordFirst b s).env = s.env := rfl
end

section
variable (s : State) (b : Byte)
@[simp] theorem recordSecond_ps : (recordSecond b s).ps = s.ps := rfl
@[simp] theorem recordSecond_cb : (recordSecond b s).cb = ⟨2, s.cb.b0, b⟩ := rfl
@[simp] theorem recordSecond_lrb : (recordSecond b s).lrb = s.lrb := rfl
@[simp] theorem recordSecond_rxp : (recordSecond b s).rxp = s.rxp := rfl
@[simp] theorem recordSecond_seq : (recordSecond b s).seq = s.seq := rfl
@[simp] theorem recordSecond_drv : (recordSecond b s).drv = s.drv := rfl
@[simp] theorem recordSecond_csn : (recordSecond b s).csn = s.csn := rfl
@[simp] theorem recordSecond_loop : (recordSecond b s).loop = s.loop := rfl
@[simp] theorem recordSecond_eng : (recordSecond b s).eng = s.eng := rfl
@[simp] theorem recordSecond_txReg : (recordSecond b s).txReg = s.txReg := rfl
@[simp] theorem recordSecond_rxsh : (recordSecond b s).rxsh = s.rxsh := rfl
@[simp] theorem recordSecond_shcnt : (recordSecond b s).shcnt = s.shcnt := rfl
@[simp] theorem recordSecond_done : (recordSecond b s).done = s.done := rfl
@[simp] theorem recordSecond_mosi : (recordSecond b s).mosi = s.mosi := rfl
@[simp] theorem recordSecond_sclk : (recordSecond b s).sclk = s.sclk := rfl
@[simp] theorem recordSecond_txLog : (recordSecond b s).txLog = s.txLog := rfl
@[simp] theorem recordSecond_spiLog : (recordSecond b s).spiLog = s.spiLog := rfl
@[simp] theorem recordSecond_fault : (recordSecond b s).fault = s.fault := rfl
@[simp] theorem recordSecond_env : (recordSecond b s).env = s.env := rfl
end

section
variable (s : State) (v : Setting)
@[simp] theorem resolve_ps : (resolve v s).ps = ⟨.resolved, v⟩ := rfl
@[simp] theorem resolve_cb : (resolve v s).cb = s.cb := rfl
@[simp] theorem resolve_lrb : (resolve v s).lrb = s.lrb := rfl
@[simp] theorem resolve_rxp : (resolve v s).rxp = s.rxp := rfl
@[simp] theorem resolve_seq : (resolve v s).seq = s.seq := rfl
@[simp] theorem resolve_drv : (resolve v s).drv = s.drv := rfl
@[simp] theorem resolve_csn : (resolve v s).csn = s.csn := rfl
@[simp] theorem resolve_loop : (resolve v s).loop = s.loop := rfl
@[simp] theorem resolve_eng : (resolve v s).eng = s.eng := rfl
@[simp] theorem resolve_txReg : (resolve v s).txReg = s.txReg := rfl
@[simp] theorem resolve_rxsh : (resolve v s).rxsh = s.rxsh := rfl
@[simp] theorem resolve_shcnt : (resolve v s).shcnt = s.shcnt := rfl
@[simp] theorem resolve_done : (resolve v s).done = s.done := rfl
@[simp] theorem resolve_mosi : (resolve v s).mosi = s.mosi := rfl
@[simp] theorem resolve_sclk : (resolve v s).sclk = s.sclk := rfl
@[simp] theorem resolve_txLog : (resolve v s).txLog = s.txLog := rfl
@[simp] theorem resolve_spiLog : (resolve v s).spiLog = s.spiLog := rfl
@[simp] theorem resolve_fault : (resolve v s).fault = s.fault := rfl
@[simp] theorem resolve_env : (resolve v s).env = s.env := rfl
end

section
variable (s : State) (v : Setting)
@[simp] theorem awaitSecond_ps : (awaitSecond v s).ps = ⟨.await2, v⟩ := rfl
@[simp] theorem awaitSecond_cb : (awaitSecond v s).cb = s.cb := rfl
@[simp] theorem awaitSecond_lrb : (awaitSecond v s).lrb = s.lrb := rfl
@[simp] theorem awaitSecond_rxp : (awaitSecond v s).rxp = s.rxp := rfl
@[simp] theorem awaitSecond_seq : (awaitSecond v s).seq = s.seq := rfl
@[simp] theorem awaitSecond_drv : (awaitSecond v s).drv = s.drv := rfl
@[simp] theorem awaitSecond_csn : (awaitSecond v s).csn = s.csn := rfl
@[simp] theorem awaitSecond_loop : (awaitSecond v s).loop = s.loop := rfl
@[simp] theorem awaitSecond_eng : (awaitSecond v s).eng = s.eng := rfl
@[simp] theorem awaitSecond_txReg : (awaitSecond v s).txReg = s.txReg := rfl
@[simp] theorem awaitSecond_rxsh : (awaitSecond v s).rxsh = s.rxsh := rfl
@[simp] theorem awaitSecond_shcnt : (awaitSecond v s).shcnt = s.shcnt := rfl
@[simp] theorem awaitSecond_done : (awaitSecond v s).done = s.done := rfl
@[simp] theorem awaitSecond_mosi : (awaitSecond v s).mosi = s.mosi := rfl
@[simp] theorem awaitSecond_sclk : (awaitSecond v s).sclk = s.sclk := rfl
@[simp] theorem awaitSecond_txLog : (awaitSecond v s).txLog = s.txLog := rfl
@[simp] theorem awaitSecond_spiLog : (awaitSecond v s).spiLog = s.spiLog := rfl
@[simp] theorem awaitSecond_fault : (awaitSecond v s).fault = s.fault := rfl
@[simp] theorem awaitSecond_env : (awaitSecond v s).env = s.env := rfl
end

section
variable (s : State) (c : InvalidCause)
@[simp] theorem raiseInvalid_ps : (raiseInvalid c s).ps = ⟨.invalid, s.ps.value⟩ := rfl
@[simp] theorem raiseInvalid_cb : (raiseInvalid c s).cb = s.cb := rfl
@[simp] theorem raiseInvalid_lrb : (raiseInvalid c s).lrb = s.lrb := rfl
@[simp] theorem raiseInvalid_rxp : (raiseInvalid c s).rxp = s.rxp := rfl
@[simp] theorem raiseInvalid_seq : (raiseInvalid c s).seq = s.seq := rfl
@[simp] theorem raiseInvalid_drv : (raiseInvalid c s).drv = s.drv := rfl
@[simp] theorem raiseInvalid_csn : (raiseInvalid c s).csn = s.csn := rfl
@[simp] theorem raiseInvalid_loop : (raiseInvalid c s).loop = s.loop := rfl
@[simp] theorem raiseInvalid_eng : (raiseInvalid c s).eng = s.eng := rfl
@[simp] theorem raiseInvalid_txReg : (raiseInvalid c s).txReg = s.txReg := rfl
@[simp] theorem raiseInvalid_rxsh : (raiseInvalid c s).rxsh = s.rxsh := rfl
@[simp] theorem raiseInvalid_shcnt : (raiseInvalid c s).shcnt = s.shcnt := rfl
@[simp] theorem raiseInvalid_done : (raiseInvalid c s).done = s.done := rfl
@[simp] theorem raiseInvalid_mosi : (raiseInvalid c s).mosi = s.mosi := rfl
@[simp] theorem raiseInvalid_sclk : (raiseInvalid c s).sclk = s.sclk := rfl
@[simp] theorem raiseInvalid_txLog : (raiseInvalid c s).txLog = s.txLog := rfl
@[simp] theorem raiseInvalid_spiLog : (raiseInvalid c s).spiLog = s.spiLog := rfl
@[simp] theorem raiseInvalid_fault : (raiseInvalid c s).fault = s.fault := rfl
@[simp] theorem raiseInvalid_env : (raiseInvalid c s).env = s.env := rfl
end

section
variable (s : State)
@[simp] theorem enterInvalid_ps : (enterInvalid s).ps = s.ps := rfl
@[simp] theorem enterInvalid_cb : (enterInvalid s).cb = s.cb := rfl
@[simp] theorem enterInvalid_lrb : (enterInvalid s).lrb = s.lrb := rfl
@[simp] theorem enterInvalid_rxp : (enterInvalid s).rxp = s.rxp := rfl
@[simp] theorem enterInvalid_seq : (enterInvalid s).seq = ⟨.invmsg, 0⟩ := rfl
@[simp] theorem enterInvalid_drv : (enterInvalid s).drv = s.drv := rfl
@[simp] theorem enterInvalid_csn : (enterInvalid s).csn = s.csn := rfl
@[simp] theorem enterInvalid_loop : (enterInvalid s).loop = s.loop := rfl
@[simp] theorem enterInvalid_eng : (enterInvalid s).eng = s.eng := rfl
@[simp] theorem enterInvalid_txReg : (enterInvalid s).txReg = s.txReg := rfl
@[simp] theorem enterInvalid_rxsh : (enterInvalid s).rxsh = s.rxsh := rfl
@[simp] theorem enterInvalid_shcnt : (enterInvalid s).shcnt = s.shcnt := rfl
@[simp] theorem enterInvalid_done : (enterInvalid s).done = s.done := rfl
@[simp] theorem enterInvalid_mosi : (enterInvalid s).mosi = s.mosi := rfl
@[simp] theorem enterInvalid_sclk : (enterInvalid s).sclk = s.sclk := rfl
@[simp] theorem enterInvalid_txLog : (enterInvalid s).txLog = s.txLog := rfl
@[simp] theorem enterInvalid_spiLog : (enterInvalid s).spiLog = s.spiLog := rfl
@[simp] theorem enterInvalid_fault : (enterInvalid s).fault = s.fault := rfl
@[simp] theorem enterInvalid_env : (enterInvalid s).env = s.env := rfl
end

section
variable (s : State)
@[simp] theorem leaveInvalid_ps : (leaveInvalid s).ps = s.ps := rfl
@[simp] theorem leaveInvalid_cb : (leaveInvalid s).cb = s.cb := rfl
@[simp] theorem leaveInvalid_lrb : (leaveInvalid s).lrb = s.lrb := rfl
@[simp] theorem leaveInvalid_rxp : (leaveInvalid s).rxp = s.rxp := rfl
@[simp] theorem leaveInvalid_seq : (leaveInvalid s).seq = ⟨.prompt, 0⟩ := rfl
@[simp] theorem leaveInvalid_drv : (leaveInvalid s).drv = s.drv := rfl
@[simp] theorem leaveInvalid_csn : (leaveInvalid s).csn = s.csn := rfl
@[simp] theorem leaveInvalid_loop : (leaveInvalid s).loop = s.loop := rfl
@[simp] theorem leaveInvalid_eng : (leaveInvalid s).eng = s.eng := rfl
@[simp] theorem leaveInvalid_txReg : (leaveInvalid s).txReg = s.txReg := rfl
@[simp] theorem leaveInvalid_rxsh : (leaveInvalid s).rxsh = s.rxsh := rfl
@[simp] theorem leaveInvalid_shcnt : (leaveInvalid s).shcnt = s.shcnt := rfl
@[simp] theorem leaveInvalid_done : (leaveInvalid s).done = s.done := rfl
@[simp] theorem leaveInvalid_mosi : (leaveInvalid s).mosi = s.mosi := rfl
@[simp] theorem leaveInvalid_sclk : (leaveInvalid s).sclk = s.sclk := rfl
@[simp] theorem leaveInvalid_txLog : (leaveInvalid s).txLog = s.txLog := rfl
@[simp] theorem leaveInvalid_spiLog : (leaveInvalid s).spiLog = s.spiLog := rfl
@[simp] theorem leaveInvalid_fault : (leaveInvalid s).fault = s.fault := rfl
@[simp] theorem leaveInvalid_env : (leaveInvalid s).env = s.env := rfl
end

section
variable (s : State) (b : Byte)
@[simp] theorem takeInterrupt_ps : (takeInterrupt b s).ps = s.ps := rfl
@[simp] theorem takeInterrupt_cb : (takeInterrupt b s).cb = s.cb := rfl
@[simp] theorem takeInterrupt_lrb : (takeInterrupt b s).lrb = b := rfl
@[simp] theorem takeInterrupt_rxp : (takeInterrupt b s).rxp = true := rfl
@[simp] theorem takeInterrupt_seq : (takeInterrupt b s).seq = s.seq := rfl
@[simp] theorem takeInterrupt_drv : (takeInterrupt b s).drv = s.drv := rfl
@[simp] theorem takeInterrupt_csn : (takeInterrupt b s).csn = s.csn := rfl
@[simp] theorem takeInterrupt_loop : (takeInterrupt b s).loop = s.loop := rfl
@[simp] theorem takeInterrupt_eng : (takeInterrupt b s).eng = s.eng := rfl
@[simp] theorem takeInterrupt_txReg : (takeInterrupt b s).txReg = s.txReg := rfl
@[simp] theorem takeInterrupt_rxsh : (takeInterrupt b s).rxsh = s.rxsh := rfl
@[simp] theorem takeInterrupt_shcnt : (takeInterrupt b s).shcnt = s.shcnt := rfl
@[simp] theorem takeInterrupt_done : (takeInterrupt b s).done = s.done := rfl
@[simp] theorem takeInterrupt_mosi : (takeInterrupt b s).mosi = s.mosi := rfl
@[simp] theorem takeInterrupt_sclk : (takeInterrupt b s).sclk = s.sclk := rfl
@[simp] theorem takeInterrupt_txLog : (takeInterrupt b s).txLog = s.txLog ++ [b] := rfl
@[simp] theorem takeInterrupt_spiLog : (takeInterrupt b s).spiLog = s.spiLog := rfl
@[simp] theorem takeInterrupt_fault : (takeInterrupt b s).fault = s.fault := rfl
@[simp] theorem takeInterrupt_env : (takeInterrupt b s).env = s.env := rfl
end

section
variable (s : State)
@[simp] theorem parserRestart_ps : (parserRestart s).ps = ⟨.await1, s.ps.value⟩ := rfl
@[simp] theorem parserRestart_cb : (parserRestart s).cb = ⟨0, s.cb.b0, s.cb.b1⟩ := rfl
@[simp] theorem parserRestart_lrb : (parserRestart s).lrb = s.lrb := rfl
@[simp] theorem parserRestart_rxp : (parserRestart s).rxp = s.rxp := rfl
@[simp] theorem parserRestart_seq : (parserRestart s).seq = s.seq := rfl
@[simp] theorem parserRestart_drv : (parserRestart s).drv = s.drv := rfl
@[simp] theorem parserRestart_csn : (parserRestart s).csn = s.csn := rfl
@[simp] theorem parserRestart_loop : (parserRestart s).loop = s.loop := rfl
@[simp] theorem parserRestart_eng : (parserRestart s).eng = s.eng := rfl
@[simp] theorem parserRestart_txReg : (parserRestart s).txReg = s.txReg := rfl
@[simp] theorem parserRestart_rxsh : (parserRestart s).rxsh = s.rxsh := rfl
@[simp] theorem parserRestart_shcnt : (parserRestart s).shcnt = s.shcnt := rfl
@[simp] theorem parserRestart_done : (parserRestart s).done = s.done := rfl
@[simp] theorem parserRestart_mosi : (parserRestart s).mosi = s.mosi := rfl
@[simp] theorem parserRestart_sclk : (parserRestart s).sclk = s.sclk := rfl
@[simp] theorem parserRestart_txLog : (parserRestart s).txLog = s.txLog := rfl
@[simp] theorem parserRestart_spiLog : (parserRestart s).spiLog = s.spiLog := rfl
@[simp] theorem parserRestart_fault : (parserRestart s).fault = s.fault := rfl
@[simp] theorem parserRestart_env : (parserRestart s).env = s.env := rfl
end

section
variable (s : State)
@[simp] theorem assertCs_ps : (assertCs s).ps = s.ps := rfl
@[simp] theorem assertCs_cb : (assertCs s).cb = s.cb := rfl
@[simp] theorem assertCs_lrb : (assertCs s).lrb = s.lrb := rfl
@[simp] theorem assertCs_rxp : (assertCs s).rxp = s.rxp := rfl
@[simp] theorem assertCs_seq : (assertCs s).seq = s.seq := rfl
@[simp] theorem assertCs_drv : (assertCs s).drv = s.drv := rfl
@[simp] theorem assertCs_csn : (assertCs s).csn = false := rfl
@[simp] theorem assertCs_loop : (assertCs s).loop = s.loop := rfl
@[simp] theorem assertCs_eng : (assertCs s).eng = s.eng := rfl
@[simp] theorem assertCs_txReg : (assertCs s).txReg = s.txReg := rfl
@[simp] theorem assertCs_rxsh : (assertCs s).rxsh = s.rxsh := rfl
@[simp] theorem assertCs_shcnt : (assertCs s).shcnt = s.shcnt := rfl
@[simp] theorem assertCs_done : (assertCs s).done = s.done := rfl
@[simp] theorem assertCs_mosi : (assertCs s).mosi = s.mosi := rfl
@[simp] theorem assertCs_sclk : (assertCs s).sclk = s.sclk := rfl
@[simp] theorem assertCs_txLog : (assertCs s).txLog = s.txLog := rfl
@[simp] theorem assertCs_spiLog : (assertCs s).spiLog = s.spiLog ++ [.csLow] := rfl
@[simp] theorem assertCs_fault : (assertCs s).fault = s.fault := rfl
@[simp] theorem assertCs_env : (assertCs s).env = s.env := rfl
end

section
variable (s : State)
@[simp] theorem deassertCs_ps : (deassertCs s).ps = s.ps := rfl
@[simp] theorem deassertCs_cb : (deassertCs s).cb = s.cb := rfl
@[simp] theorem deassertCs_lrb : (deassertCs s).lrb = s.lrb := rfl
@[simp] theorem deassertCs_rxp : (deassertCs s).rxp = s.rxp := rfl
@[simp] theorem deassertCs_seq : (deassertCs s).seq = s.seq := rfl
@[simp] theorem deassertCs_drv : (deassertCs s).drv = s.drv := rfl
@[simp] theorem deassertCs_csn : (deassertCs s).csn = true := rfl
@[simp] theorem deassertCs_loop : (deassertCs s).loop = s.loop := rfl
@[simp] theorem deassertCs_eng : (deassertCs s).eng = s.eng := rfl
@[simp] theorem deassertCs_txReg : (deassertCs s).txReg = s.txReg := rfl
@[simp] theorem deassertCs_rxsh : (deassertCs s).rxsh = s.rxsh := rfl
@[simp] theorem deassertCs_shcnt : (deassertCs s).shcnt = s.shcnt := rfl
@[simp] theorem deassertCs_done : (deassertCs s).done = s.done := rfl
@[simp] theorem deassertCs_mosi : (deassertCs s).mosi = s.mosi := rfl
@[simp] theorem deassertCs_sclk : (deassertCs s).sclk = s.sclk := rfl
@[simp] theorem deassertCs_txLog : (deassertCs s).txLog = s.txLog := rfl
@[simp] theorem deassertCs_spiLog : (deassertCs s).spiLog = s.spiLog ++ [.csHigh] := rfl
@[simp] theorem deassertCs_fault : (deassertCs s).fault = s.fault := rfl
@[simp] theorem deassertCs_env : (deassertCs s).env = s.env := rfl
end

section
variable (s : State)
@[simp] theorem dropTurn_ps : (dropTurn s).ps = s.ps := rfl
@[simp] theorem dropTurn_cb : (dropTurn s).cb = s.cb := rfl
@[simp] theorem dropTurn_lrb : (dropTurn s).lrb = s.lrb := rfl
@[simp] theorem dropTurn_rxp : (dropTurn s).rxp = s.rxp := rfl
@[simp] theorem dropTurn_seq : (dropTurn s).seq = s.seq := rfl
@[simp] theorem dropTurn_drv : (dropTurn s).drv = s.drv := rfl
@[simp] theorem dropTurn_csn : (dropTurn s).csn = s.csn := rfl
@[simp] theorem dropTurn_loop : (dropTurn s).loop = s.loop := rfl
@[simp] theorem dropTurn_eng : (dropTurn s).eng = s.eng := rfl
@[simp] theorem dropTurn_txReg : (dropTurn s).txReg = s.txReg := rfl
@[simp] theorem dropTurn_rxsh : (dropTurn s).rxsh = s.rxsh := rfl
@[simp] theorem dropTurn_shcnt : (dropTurn s).shcnt = s.shcnt := rfl
@[simp] theorem dropTurn_done : (dropTurn s).done = s.done := rfl
@[simp] theorem dropTurn_mosi : (dropTurn s).mosi = s.mosi := rfl
@[simp] theorem dropTurn_sclk : (dropTurn s).sclk = s.sclk := rfl
@[simp] theorem dropTurn_txLog : (dropTurn s).txLog = s.txLog := rfl
@[simp] theorem dropTurn_spiLog : (dropTurn s).spiLog = s.spiLog := rfl
@[simp] theorem dropTurn_fault : (dropTurn s).fault = s.fault := rfl
@[simp] theorem dropTurn_env : (dropTurn s).env = ⟨s.env.turns.tail, s.env.txWait, s.env.freeTick⟩ := rfl
end

section
variable (s : State) (n : Nat)
@[simp] theorem holdTx_ps : (holdTx n s).ps = s.ps := rfl
@[simp] theorem holdTx_cb : (holdTx n s).cb = s.cb := rfl
@[simp] theorem holdTx_lrb : (holdTx n s).lrb = s.lrb := rfl
@[simp] theorem holdTx_rxp : (holdTx n s).rxp = s.rxp := rfl
@[simp] theorem holdTx_seq : (holdTx n s).seq = s.seq := rfl
@[simp] theorem holdTx_drv : (holdTx n s).drv = s.drv := rfl
@[simp] theorem holdTx_csn : (holdTx n s).csn = s.csn := rfl
@[simp] theorem holdTx_loop : (holdTx n s).loop = s.loop := rfl
@[simp] theorem holdTx_eng : (holdTx n s).eng = s.eng := rfl
@[simp] theorem holdTx_txReg : (holdTx n s).txReg = s.txReg := rfl
@[simp] theorem holdTx_rxsh : (holdTx n s).rxsh = s.rxsh := rfl
@[simp] theorem holdTx_shcnt : (holdTx n s).shcnt = s.shcnt := rfl
@[simp] theorem holdTx_done : (holdTx n s).done = s.done := rfl
@[simp] theorem holdTx_mosi : (holdTx n s).mosi = s.mosi := rfl
@[simp] theorem holdTx_sclk : (holdTx n s).sclk = s.sclk := rfl
@[simp] theorem holdTx_txLog : (holdTx n s).txLog = s.txLog := rfl
@[simp] theorem holdTx_spiLog : (holdTx n s).spiLog = s.spiLog := rfl
@[simp] theorem holdTx_fault : (holdTx n s).fault = s.fault := rfl
@[simp] theorem holdTx_env : (holdTx n s).env = ⟨s.env.turns, n + 1, s.env.freeTick⟩ := rfl
end

section
variable (s : State)
@[simp] theorem tick_ps : (tick s).ps = s.ps := rfl
@[simp] theorem tick_cb : (tick s).cb = s.cb := rfl
@[simp] theorem tick_lrb : (tick s).lrb = s.lrb := rfl
@[simp] theorem tick_rxp : (tick s).rxp = s.rxp := rfl
@[simp] theorem tick_seq : (tick s).seq = s.seq := rfl
@[simp] theorem tick_drv : (tick s).drv = s.drv := rfl
@[simp] theorem tick_csn : (tick s).csn = s.csn := rfl
@[simp] theorem tick_loop : (tick s).loop = s.loop := rfl
@[simp] theorem tick_eng : (tick s).eng = s.eng := rfl
@[simp] theorem tick_txReg : (tick s).txReg = s.txReg := rfl
@[simp] theorem tick_rxsh : (tick s).rxsh = s.rxsh := rfl
@[simp] theorem tick_shcnt : (tick s).shcnt = s.shcnt := rfl
@[simp] theorem tick_done : (tick s).done = s.done := rfl
@[simp] theorem tick_mosi : (tick s).mosi = s.mosi := rfl
@[simp] theorem tick_sclk : (tick s).sclk = s.sclk := rfl
@[simp] theorem tick_txLog : (tick s).txLog = s.txLog := rfl
@[simp] theorem tick_spiLog : (tick s).spiLog = s.spiLog := rfl
@[simp] theorem tick_fault : (tick s).fault = s.fault := rfl
@[simp] theorem tick_env : (tick s).env = ⟨s.env.turns, s.env.txWait - 1, s.env.freeTick + 1⟩ := rfl
end

end Sys2Proof.Machine
end

