-- ==== Sys2Proof/Laws/Steps.lean ====
section
/-! SUPPORT. What the shared operations and the step can do, each said once: a proof cites these and does not unfold
the step. -/

namespace Sys2Proof.Machine

/-- The states in which the block moves by itself and MAIN has the move. -/
theorem step_of_main {s : State} (ht : s.env.turns = []) (hf : s.fault = FaultSet.empty)
    (he : engineEnabled s = false) : step s = mapNext tick (mainStep s) := by
  simp [step, machineStep, turnStep, ht, blockStep, unlessFaulted, hf, he]

/-- The states in which the block moves by itself and ENGINE has the move. -/
theorem step_of_engine {s : State} (ht : s.env.turns = []) (hf : s.fault = FaultSet.empty)
    (he : engineEnabled s = true) : step s = .next (tick (shiftBit s)) := by
  simp [step, machineStep, turnStep, ht, blockStep, unlessFaulted, hf, he, engineStep, mapNext]

theorem mapNext_eq_next {f : State → State} {r : Result} {t : State} :
    mapNext f r = .next t ↔ ∃ u, r = .next u ∧ f u = t := by
  cases r <;> simp [mapNext]

theorem orRaise_eq_next {s t : State} {o : Except FaultReason State} :
    orRaise s o = .next t ↔ o = .ok t ∨ ∃ r, o = .error r ∧ t = raise r s := by
  cases o <;> simp [orRaise, eq_comm]

theorem unlessFaulted_eq_next {s t : State} {r : Result} :
    unlessFaulted s r = .next t ↔ s.fault = FaultSet.empty ∧ r = .next t := by
  unfold unlessFaulted
  split <;> simp_all

theorem firstByte_eq_next {b : Byte} {act : State → State} {s t : State} :
    firstByte b act s = .next t ↔ s.ps.stage = .await1 ∧ act (recordFirst b s) = t := by
  unfold firstByte
  split <;> simp_all

theorem secondByte_eq_next {b : Byte} {act : State → State} {s t : State} :
    secondByte b act s = .next t ↔ s.ps.stage = .await2 ∧ act (recordSecond b s) = t := by
  unfold secondByte
  split <;> simp_all

/-- A string byte waits, or is sent, or its index has no cell. -/
theorem sendStringByte_eq_next {read : Except FaultReason Byte} {s t : State} :
    sendStringByte read s = .next t ↔
      (txFree s = false ∧ t = s) ∨
      (txFree s = true ∧ ∃ b, read = .ok b ∧
        t = tx b (s.setSeq { s.seq with idx := s.seq.idx + 1 })) ∨
      (txFree s = true ∧ ∃ r, read = .error r ∧ t = raise r s) := by
  unfold sendStringByte
  cases h : txFree s <;> cases read <;> simp [Except.map, orRaise, eq_comm]

/-- What a byte class can do where it completes: it writes PS and CB, and leaves AWAIT1 behind; a setting it resolves
is at most 10. -/
theorem exec_next {i : Instr} {s t : State} (h : exec i s = .next t) :
    ∃ p c, t = { s with ps := p, cb := c } ∧ p.stage ≠ .await1 ∧
      (p.stage = .resolved → p.value.toNat ≤ 10) ∧
      (p.stage = .await2 → p.value = 1 ∧ c.count = 1 ∧ c.b0 = 0x31) := by
  cases i
  case set10 => obtain ⟨-, rfl⟩ := secondByte_eq_next.1 h; exact ⟨_, _, rfl, by simp, by simp, by simp⟩
  case set1 => obtain ⟨-, rfl⟩ := secondByte_eq_next.1 h; exact ⟨_, _, rfl, by simp, by simp, by simp⟩
  case inv2 b => obtain ⟨-, rfl⟩ := secondByte_eq_next.1 h; exact ⟨_, _, rfl, by simp, by simp, by simp⟩
  case inv1 b => obtain ⟨-, rfl⟩ := firstByte_eq_next.1 h; exact ⟨_, _, rfl, by simp, by simp, by simp⟩
  case pfx1 => obtain ⟨-, rfl⟩ := firstByte_eq_next.1 h; exact ⟨_, _, rfl, by simp, by simp, by simp⟩
  all_goals
    obtain ⟨-, rfl⟩ := firstByte_eq_next.1 h
    exact ⟨_, _, rfl, by simp, by decide, by simp⟩

/-- The decoder gives a class of the format it was asked for. -/
theorem instrFormat_decodeByte : ∀ (f : Format) (b : Byte), instrFormat (decodeByte f b) = f := by
  intro f
  cases f <;> decide

/-- A class completes in the stage that selects its format. -/
theorem exec_completes (i : Instr) (s : State) (h : stageFormat s.ps.stage = some (instrFormat i)) :
    ∃ t, exec i s = .next t := by
  cases hs : s.ps.stage <;> simp [hs, stageFormat] at h <;> cases i <;> simp [instrFormat] at h
  case await2.set10 => exact ⟨_, secondByte_eq_next.2 ⟨hs, rfl⟩⟩
  case await2.set1 => exact ⟨_, secondByte_eq_next.2 ⟨hs, rfl⟩⟩
  case await2.inv2 b => exact ⟨_, secondByte_eq_next.2 ⟨hs, rfl⟩⟩
  all_goals exact ⟨_, firstByte_eq_next.2 ⟨hs, rfl⟩⟩

/-- One bit read after one bit is written. -/
theorem byteBit_setByteBit (j k : Fin 8) (v : Byte) (x : Level) :
    byteBit (setByteBit v k x) j = if j = k then x else byteBit v j := by
  fin_cases j <;> fin_cases k <;> cases x <;> simp [byteBit, setByteBit]

/-- One bit of the shadow byte after a bit step: the bit sent where LOOP = 1 and the bit is its own, else what it was. -/
theorem byteBit_shadowAfter (j k : Fin 8) (v : Level) (s : State) :
    byteBit (shadowAfter k v s) j = if s.loop = true ∧ j = k then v else byteBit s.rxsh j := by
  unfold shadowAfter
  split <;> simp_all [byteBit_setByteBit]

/-- Every index of the prompt has its byte. -/
theorem promptRead_ok {i : Nat} (h : i < 21) :
    ∃ b, Config.prompt[i]? = some b ∧ promptRead i = .ok b := by
  have hi : i < Config.prompt.length := h
  exact ⟨_, List.getElem?_eq_getElem hi, by simp [promptRead, romRead, List.getElem?_eq_getElem hi]⟩

/-- Every index of the invalid message has its byte. -/
theorem invalidMsgRead_ok {i : Nat} (h : i < 21) :
    ∃ b, Config.invalidMsg[i]? = some b ∧ invalidMsgRead i = .ok b := by
  have hi : i < Config.invalidMsg.length := h
  exact ⟨_, List.getElem?_eq_getElem hi, by simp [invalidMsgRead, romRead, List.getElem?_eq_getElem hi]⟩

/-- Every setting of the range has its Control Byte. -/
theorem tableRead_ok {n : Nat} (h : n ≤ 10) :
    ∃ b, Config.table[n]? = some b ∧ tableRead n = .ok b := by
  have hn : n < Config.table.length := by simp [Config.table]; omega
  exact ⟨_, List.getElem?_eq_getElem hn, by simp [tableRead, romRead, List.getElem?_eq_getElem hn]⟩

/-- The bit counter below 8 counts without wrapping. -/
theorem shcnt_succ {n : Fin 9} (h : n.val < 8) : (n + 1).val = n.val + 1 := by
  revert n
  decide

/-- The string index below 21 counts without wrapping. -/
theorem idx_succ {n : Fin 22} (h : n.val < 21) : (n + 1).val = n.val + 1 := by
  revert n
  decide

/-! The driver's micro-steps where nothing is raised, one lemma each. -/

theorem inTransfer_eq_false {s : State} (h : s.shcnt = 8) : inTransfer s = false := by simp [inTransfer, h]

theorem driverStep_lookup {s : State} {b : Byte} (h : s.drv.step = .lookup)
    (hb : tableRead s.ps.value.toNat = .ok b) : driverStep s = .next (s.setDrv ⟨.csAssert, b⟩) := by
  simp [driverStep, h, drvLookup, hb, Except.map, orRaise]

theorem driverStep_csAssert {s : State} (h : s.drv.step = .csAssert) :
    driverStep s = .next (goStep .loopOn (assertCs s)) := by
  simp [driverStep, h, drvCsAssert, orRaise]

theorem driverStep_loopOn {s : State} (h : s.drv.step = .loopOn) :
    driverStep s = .next (goStep .engStart (s.setLoop true)) := by
  simp [driverStep, h, drvLoopOn, writeLoop, Except.map, orRaise]

theorem driverStep_engStart {s : State} (h : s.drv.step = .engStart) :
    driverStep s = .next (goStep .txWrite (s.setEng true)) := by
  simp [driverStep, h, drvEngStart, writeEng, Except.map, orRaise]

theorem driverStep_txWrite {s : State} (h : s.drv.step = .txWrite) (he : s.eng = true) (h8 : s.shcnt = 8) :
    driverStep s = .next (goStep .waitDone (clearDone ((s.setTxReg s.drv.cb).setShcnt 0))) := by
  simp [driverStep, h, drvTxWrite, writeTxReg, he, inTransfer_eq_false h8, Except.map, orRaise]

theorem driverStep_waitDone_busy {s : State} (h : s.drv.step = .waitDone) (hd : s.done = false) :
    driverStep s = .next s := by
  simp [driverStep, h, drvWaitDone, hd, orRaise]

theorem driverStep_waitDone_ready {s : State} (h : s.drv.step = .waitDone) (hd : s.done = true) :
    driverStep s = .next (goStep .discard s) := by
  simp [driverStep, h, drvWaitDone, hd, orRaise]

theorem driverStep_discard {s : State} (h : s.drv.step = .discard) :
    driverStep s = .next (goStep .engStop (clearDone s)) := by
  simp [driverStep, h, drvDiscard, readRxsh, orRaise]

theorem driverStep_engStop {s : State} (h : s.drv.step = .engStop) (h8 : s.shcnt = 8) :
    driverStep s = .next (goStep .loopOff (s.setEng false)) := by
  simp [driverStep, h, drvEngStop, writeEng, inTransfer_eq_false h8, Except.map, orRaise]

theorem driverStep_loopOff {s : State} (h : s.drv.step = .loopOff) (h8 : s.shcnt = 8) :
    driverStep s = .next (goStep .csDeassert (s.setLoop false)) := by
  simp [driverStep, h, drvLoopOff, writeLoop, inTransfer_eq_false h8, Except.map, orRaise]

theorem driverStep_csDeassert {s : State} (h : s.drv.step = .csDeassert) :
    driverStep s = .next (enter .prompt (goStep .lookup (deassertCs s))) := by
  simp [driverStep, h, drvCsDeassert, orRaise]

end Sys2Proof.Machine
end

