-- ==== Sys2Proof/Laws/Moves.lean ====
section
/-! SUPPORT. Everything a step can do, said once: an invariant or a frame of the step is a case analysis over these two
lists of moves. -/

namespace Sys2Proof.Machine

/-- Everything MAIN's step can do where it answers a next state. -/
inductive MainMove (s : State) : State → Prop
  /-- MAIN has no step, or waits for the transmit buffer. -/
  | waits : MainMove s s
  | promptByte (b : Byte) (hp : s.seq.phase = .prompt) (hi : s.seq.idx.val < 21)
      (hb : Config.prompt[s.seq.idx.val]? = some b) (hf : txFree s = true) :
      MainMove s { s with txLog := s.txLog ++ [b], seq := ⟨.prompt, s.seq.idx + 1⟩ }
  | promptEnd (hp : s.seq.phase = .prompt) (hi : s.seq.idx = 21) :
      MainMove s { s with ps := ⟨.await1, s.ps.value⟩, cb := ⟨0, s.cb.b0, s.cb.b1⟩, seq := ⟨.idle, 0⟩ }
  | wake (f : Format) (p : ParserState) (c : CommandBuffer) (hp : s.seq.phase = .idle) (hr : s.rxp = true)
      (hs : stageFormat s.ps.stage = some f)
      (he : exec (decodeByte f s.lrb) (clearRxp s) = .next { s with ps := p, cb := c, rxp := false })
      (hn : p.stage ≠ .await1) (hv : p.stage = .resolved → p.value.toNat ≤ 10)
      (h2 : p.stage = .await2 → p.value = 1 ∧ c.count = 1 ∧ c.b0 = 0x31) :
      MainMove s { s with ps := p, cb := c, rxp := false, seq := ⟨.dispatch, s.seq.idx⟩ }
  | toIdle (hp : s.seq.phase = .dispatch) (hs : s.ps.stage = .await2) :
      MainMove s { s with seq := ⟨.idle, s.seq.idx⟩ }
  | toApply (hp : s.seq.phase = .dispatch) (hs : s.ps.stage = .resolved) :
      MainMove s { s with seq := ⟨.apply, s.seq.idx⟩, drv := ⟨.lookup, s.drv.cb⟩ }
  | toMessage (hp : s.seq.phase = .dispatch) (hs : s.ps.stage = .invalid) :
      MainMove s { s with seq := ⟨.invmsg, 0⟩ }
  | messageByte (b : Byte) (hp : s.seq.phase = .invmsg) (hi : s.seq.idx.val < 21)
      (hb : Config.invalidMsg[s.seq.idx.val]? = some b) (hf : txFree s = true) :
      MainMove s { s with txLog := s.txLog ++ [b], seq := ⟨.invmsg, s.seq.idx + 1⟩ }
  | messageEnd (hp : s.seq.phase = .invmsg) (hi : s.seq.idx = 21) :
      MainMove s { s with seq := ⟨.prompt, 0⟩ }
  | lookup (b : Byte) (hp : s.seq.phase = .apply) (hd : s.drv.step = .lookup)
      (hb : Config.table[s.ps.value.toNat]? = some b) : MainMove s { s with drv := ⟨.csAssert, b⟩ }
  | lookupFails (hp : s.seq.phase = .apply) (hd : s.drv.step = .lookup) (hv : 10 < s.ps.value.toNat) :
      MainMove s (raise .contractViolation s)
  | csAssert (hp : s.seq.phase = .apply) (hd : s.drv.step = .csAssert) :
      MainMove s { s with csn := false, spiLog := s.spiLog ++ [.csLow], drv := ⟨.loopOn, s.drv.cb⟩ }
  | loopOn (hp : s.seq.phase = .apply) (hd : s.drv.step = .loopOn) :
      MainMove s { s with loop := true, drv := ⟨.engStart, s.drv.cb⟩ }
  | engStart (hp : s.seq.phase = .apply) (hd : s.drv.step = .engStart) :
      MainMove s { s with eng := true, drv := ⟨.txWrite, s.drv.cb⟩ }
  | txWrite (hp : s.seq.phase = .apply) (hd : s.drv.step = .txWrite) (he : s.eng = true) (h8 : s.shcnt = 8) :
      MainMove s { s with txReg := s.drv.cb, shcnt := 0, done := false, drv := ⟨.waitDone, s.drv.cb⟩ }
  | misuse (hp : s.seq.phase = .apply)
      (hm : s.drv.step = .txWrite ∧ (s.eng = false ∨ s.shcnt ≠ 8) ∨
        (s.drv.step = .engStop ∨ s.drv.step = .loopOff) ∧ s.shcnt ≠ 8) : MainMove s (raise .engineMisuse s)
  | transferDone (hp : s.seq.phase = .apply) (hd : s.drv.step = .waitDone) (hx : s.done = true) :
      MainMove s { s with drv := ⟨.discard, s.drv.cb⟩ }
  | discard (hp : s.seq.phase = .apply) (hd : s.drv.step = .discard) :
      MainMove s { s with done := false, drv := ⟨.engStop, s.drv.cb⟩ }
  | engStop (hp : s.seq.phase = .apply) (hd : s.drv.step = .engStop) (h8 : s.shcnt = 8) :
      MainMove s { s with eng := false, drv := ⟨.loopOff, s.drv.cb⟩ }
  | loopOff (hp : s.seq.phase = .apply) (hd : s.drv.step = .loopOff) (h8 : s.shcnt = 8) :
      MainMove s { s with loop := false, drv := ⟨.csDeassert, s.drv.cb⟩ }
  | csDeassert (hp : s.seq.phase = .apply) (hd : s.drv.step = .csDeassert) :
      MainMove s { s with
        csn := true, spiLog := s.spiLog ++ [.csHigh], drv := ⟨.lookup, s.drv.cb⟩, seq := ⟨.prompt, 0⟩ }

theorem inTransfer_iff {s : State} : inTransfer s = true ↔ s.shcnt ≠ 8 := by
  simp [inTransfer, Fin.ext_iff]
  omega

theorem idx_eq_21 {s : State} (h : ¬ s.seq.idx.val < 21) : s.seq.idx = 21 := by
  rw [Fin.ext_iff]
  show s.seq.idx.val = 21
  omega

/-- A read of the table fails on the settings above 10 alone. -/
theorem tableRead_eq_error {n : Nat} {r : FaultReason} (h : tableRead n = .error r) :
    r = .contractViolation ∧ 10 < n := by
  constructor
  · unfold tableRead romRead at h
    split at h <;> simp_all
  · by_contra hn
    obtain ⟨b, -, hb⟩ := tableRead_ok (n := n) (by omega)
    simp [hb] at h

theorem tableRead_eq_ok {n : Nat} {b : Byte} (h : tableRead n = .ok b) : Config.table[n]? = some b := by
  unfold tableRead romRead at h
  split at h <;> simp_all

theorem driverStep_next {s t : State} (hp : s.seq.phase = .apply) (h : driverStep s = .next t) : MainMove s t := by
  cases hd : s.drv.step
  case lookup =>
    cases hr : tableRead s.ps.value.toNat with
    | ok b =>
      rw [driverStep_lookup hd hr] at h
      cases h
      exact .lookup b hp hd (tableRead_eq_ok hr)
    | error r =>
      obtain ⟨rfl, hv⟩ := tableRead_eq_error hr
      simp [driverStep, hd, drvLookup, hr, Except.map, orRaise] at h
      subst h
      exact .lookupFails hp hd hv
  case csAssert => rw [driverStep_csAssert hd] at h; cases h; exact .csAssert hp hd
  case loopOn => rw [driverStep_loopOn hd] at h; cases h; exact .loopOn hp hd
  case engStart => rw [driverStep_engStart hd] at h; cases h; exact .engStart hp hd
  case txWrite =>
    by_cases hm : s.eng = true ∧ s.shcnt = 8
    · rw [driverStep_txWrite hd hm.1 hm.2] at h; cases h; exact .txWrite hp hd hm.1 hm.2
    · have hw : writeTxReg s.drv.cb s = .error .engineMisuse := by
        by_cases he : s.eng = true
        · simp [writeTxReg, inTransfer_iff.2 (fun h8 => hm ⟨he, h8⟩)]
        · simp [writeTxReg, he]
      simp [driverStep, hd, drvTxWrite, hw, Except.map, orRaise] at h
      subst h
      refine .misuse hp (.inl ⟨hd, ?_⟩)
      by_cases he : s.eng = true
      · exact .inr fun h8 => hm ⟨he, h8⟩
      · exact .inl (by simpa using he)
  case waitDone =>
    cases hx : s.done
    · rw [driverStep_waitDone_busy hd hx] at h; cases h; exact .waits
    · rw [driverStep_waitDone_ready hd hx] at h; cases h; exact .transferDone hp hd hx
  case discard => rw [driverStep_discard hd] at h; cases h; exact .discard hp hd
  case engStop =>
    by_cases h8 : s.shcnt = 8
    · rw [driverStep_engStop hd h8] at h; cases h; exact .engStop hp hd h8
    · simp [driverStep, hd, drvEngStop, writeEng, inTransfer_iff.2 h8, Except.map, orRaise] at h
      subst h
      exact .misuse hp (.inr ⟨.inl hd, h8⟩)
  case loopOff =>
    by_cases h8 : s.shcnt = 8
    · rw [driverStep_loopOff hd h8] at h; cases h; exact .loopOff hp hd h8
    · simp [driverStep, hd, drvLoopOff, writeLoop, inTransfer_iff.2 h8, Except.map, orRaise] at h
      subst h
      exact .misuse hp (.inr ⟨.inr hd, h8⟩)
  case csDeassert => rw [driverStep_csDeassert hd] at h; cases h; exact .csDeassert hp hd

theorem promptStep_next {s t : State} (hp : s.seq.phase = .prompt) (h : promptStep s = .next t) : MainMove s t := by
  unfold promptStep at h
  split at h
  · rename_i hi
    obtain ⟨b, hb, hr⟩ := promptRead_ok hi
    rcases sendStringByte_eq_next.1 h with ⟨-, rfl⟩ | ⟨hf, c, hc, rfl⟩ | ⟨-, r, hc, -⟩
    · exact .waits
    · rw [hr] at hc
      cases hc
      have := MainMove.promptByte b hp hi hb hf
      simpa [tx, State.setTxLog, State.setSeq, hp] using this
    · rw [hr] at hc
      cases hc
  · rename_i hi
    cases h
    exact .promptEnd hp (idx_eq_21 hi)

theorem invmsgStep_next {s t : State} (hp : s.seq.phase = .invmsg) (h : invmsgStep s = .next t) : MainMove s t := by
  unfold invmsgStep at h
  split at h
  · rename_i hi
    obtain ⟨b, hb, hr⟩ := invalidMsgRead_ok hi
    rcases sendStringByte_eq_next.1 h with ⟨-, rfl⟩ | ⟨hf, c, hc, rfl⟩ | ⟨-, r, hc, -⟩
    · exact .waits
    · rw [hr] at hc
      cases hc
      have := MainMove.messageByte b hp hi hb hf
      simpa [tx, State.setTxLog, State.setSeq, hp] using this
    · rw [hr] at hc
      cases hc
  · rename_i hi
    cases h
    exact .messageEnd hp (idx_eq_21 hi)

theorem idleStep_next {s t : State} (hp : s.seq.phase = .idle) (h : idleStep s = .next t) : MainMove s t := by
  unfold idleStep at h
  split at h
  · rename_i hr
    unfold wakeStep at h
    split at h
    · rename_i f hf
      obtain ⟨u, hu, rfl⟩ := mapNext_eq_next.1 h
      obtain ⟨p, c, rfl, hn, hv, h2⟩ := exec_next hu
      exact .wake f p c hp hr hf hu hn hv h2
    · cases h
  · cases h
    exact .waits

/-- Everything MAIN's step can do. -/
theorem mainStep_next {s t : State} (h : mainStep s = .next t) : MainMove s t := by
  cases hp : s.seq.phase <;> simp only [mainStep, hp] at h
  case halted => cases h; exact .waits
  case prompt => exact promptStep_next hp h
  case idle => exact idleStep_next hp h
  case dispatch =>
    cases hs : s.ps.stage <;> simp only [dispatchStep, hs] at h <;> cases h
    · exact .toIdle hp hs
    · exact .toApply hp hs
    · exact .toMessage hp hs
  case apply => exact driverStep_next hp h
  case invmsg => exact invmsgStep_next hp h

/-- Everything a step can do to the block, but for a reset. -/
inductive Move (s : State) : State → Prop
  /-- No agent had a step, or ISR waits for the transmit buffer, or the byte came to a halted block. -/
  | waits : Move s s
  | interrupt (b : Byte) (hq : quiescent s = true)
      (hh : s.env.turns.head? = some (.rxByte b) ∨ s.env.turns.head? = some (.rxWhenReady b)) :
      Move s (takeInterrupt b s)
  | overrun (b : Byte) (hq : quiescent s = false) (hn : s.seq.phase ≠ .halted)
      (hh : s.env.turns.head? = some (.rxByte b)) : Move s (raise .rxOverrun s)
  | main (t : State) (hf : s.fault = FaultSet.empty) (hm : MainMove s t) : Move s t
  | engine (hf : s.fault = FaultSet.empty) (he : engineEnabled s = true) : Move s (shiftBit s)

theorem blockStep_next {s t : State} (h : blockStep s = .next t) : Move s t := by
  obtain ⟨hf, h⟩ := unlessFaulted_eq_next.1 h
  split at h
  · rename_i he
    cases h
    rw [engineStep, if_pos he]
    exact .engine hf he
  · exact .main t hf (mainStep_next h)

theorem deliverByte_move {s : State} {b : Byte}
    (hh : s.env.turns.head? = some (.rxByte b) ∨ quiescent s = true ∧ s.env.turns.head? = some (.rxWhenReady b)) :
    ∃ u e, Move s u ∧ deliverByte b s = u.setEnv e := by
  unfold deliverByte
  split
  · exact ⟨s, _, .waits, rfl⟩
  · rename_i hn
    split
    · rename_i hq
      split
      · exact ⟨_, _, .interrupt b hq (hh.imp id And.right), rfl⟩
      · exact ⟨s, s.env, .waits, rfl⟩
    · rename_i hq
      rcases hh with hh | ⟨hq', -⟩
      · exact ⟨_, _, .overrun b (by simpa using hq) hn hh, rfl⟩
      · exact absurd hq' hq

/-- Everything a step can do, but for a reset: a move, and the model's own fields. -/
theorem step_next {s t : State} (h : step s = .next t)
    (hr : ∀ ok, s.env.turns.head? ≠ some (.reset ok)) : ∃ u e, Move s u ∧ t = u.setEnv e := by
  obtain ⟨v, hv, rfl⟩ := mapNext_eq_next.1 (show mapNext tick (turnStep s) = .next t from h)
  suffices ∃ u e, Move s u ∧ v = u.setEnv e by
    obtain ⟨u, e, hm, rfl⟩ := this
    exact ⟨u, _, hm, rfl⟩
  unfold turnStep at hv
  split at hv
  · exact ⟨v, v.env, blockStep_next hv, rfl⟩
  · rename_i b _ ht
    cases hv
    exact deliverByte_move (.inl (by rw [ht]; rfl))
  · rename_i b _ ht
    split at hv
    · rename_i hq
      cases hv
      exact deliverByte_move (.inr ⟨hq, by rw [ht]; rfl⟩)
    · exact ⟨v, v.env, blockStep_next hv, rfl⟩
  · rename_i ok _ ht
    exact absurd (by rw [ht]; rfl) (hr ok)
  · cases hv
    exact ⟨s, _, .waits, rfl⟩
  · obtain ⟨u, hu, rfl⟩ := mapNext_eq_next.1 hv
    obtain ⟨hf, hu⟩ := unlessFaulted_eq_next.1 hu
    exact ⟨u, _, .main u hf (mainStep_next hu), rfl⟩
  · obtain ⟨u, hu, rfl⟩ := mapNext_eq_next.1 hv
    obtain ⟨hf, hu⟩ := unlessFaulted_eq_next.1 hu
    cases hu
    unfold engineStep
    split
    · rename_i he
      exact ⟨_, _, .engine hf he, rfl⟩
    · exact ⟨s, _, .waits, rfl⟩

/-- What a reset leaves, whatever the state. -/
theorem step_next_reset {s t : State} {ok : Bool} (h : step s = .next t)
    (hr : s.env.turns.head? = some (.reset ok)) :
    ∃ e, t = (if ok then State.reset else haltedState s.env).setEnv e := by
  obtain ⟨v, hv, rfl⟩ := mapNext_eq_next.1 (show mapNext tick (turnStep s) = .next t from h)
  unfold turnStep at hv
  split at hv <;> rename_i ht <;> rw [ht] at hr <;> simp at hr
  subst hr
  simp only [Host.Outcome.next.injEq] at hv
  subst hv
  rename_i ok _
  cases ok <;> exact ⟨_, rfl⟩

end Sys2Proof.Machine
end

