-- ==== Sys2Proof/Laws/PerInstr.lean ====
section
/-! SUPPORT. What holds of every byte class as syntax: its byte, in its format, is read as itself (30_encoding R64,
R65, R74). -/

namespace Sys2Proof.Laws.OwnByte

/-- A well-formed instruction's byte, read in its own format at the head of any bytes, is that instruction, and the
rest is left. -/
def Statement (i : Instr) : Prop :=
  wellFormed i = true → ∀ rest : List Byte, decode (instrFormat i) (encode i :: rest) = .ok (i, rest)

/-- A byte that is no digit selects no row of format F1. -/
theorem no_row_of_not_digit : ∀ b : Byte, isDigit b = false → opcodeRows.find? (rowSelects .f1 b) = none := by
  decide

/-- A byte that is neither `'0'` nor the carriage return selects no row of format F2. -/
theorem no_row_of_other : ∀ b : Byte, (b != 0x30 && b != Config.cr) = true →
    opcodeRows.find? (rowSelects .f2 b) = none := by
  decide

theorem set0 : Statement .set0 := fun _ _ => rfl
theorem pfx1 : Statement .pfx1 := fun _ _ => rfl
theorem set2 : Statement .set2 := fun _ _ => rfl
theorem set3 : Statement .set3 := fun _ _ => rfl
theorem set4 : Statement .set4 := fun _ _ => rfl
theorem set5 : Statement .set5 := fun _ _ => rfl
theorem set6 : Statement .set6 := fun _ _ => rfl
theorem set7 : Statement .set7 := fun _ _ => rfl
theorem set8 : Statement .set8 := fun _ _ => rfl
theorem set9 : Statement .set9 := fun _ _ => rfl
theorem set10 : Statement .set10 := fun _ _ => rfl
theorem set1 : Statement .set1 := fun _ _ => rfl

theorem inv1 (b : Byte) : Statement (.inv1 b) := fun h rest => by
  have hb : isDigit b = false := by simpa [wellFormed] using h
  simp only [decode, decodeByte, instrFormat, encode, no_row_of_not_digit b hb, defaultInstr]

theorem inv2 (b : Byte) : Statement (.inv2 b) := fun h rest => by
  simp only [decode, decodeByte, instrFormat, encode, no_row_of_other b h, defaultInstr]

end Sys2Proof.Laws.OwnByte
end

