-- ==== Sys2Proof/Laws/Run.lean ====
section
/-! SUPPORT. Runs of several steps. -/

namespace Sys2Proof.Machine

@[simp] theorem runSteps_zero (s : State) : runSteps 0 s = .next s := rfl

/-- The host's run begins with its first step. -/
theorem coreRun_succ {M : Host.Core} {s t : M.State} (h : M.step s = .next t) (n : Nat) :
    M.run (n + 1) s = M.run n t := by
  rw [Host.Core.run, h]

/-- The host's run, if it completes, began with a step that completes. -/
theorem coreRun_succ_eq_next {M : Host.Core} {s t : M.State} {n : Nat} (h : M.run (n + 1) s = .next t) :
    ∃ u, M.step s = .next u ∧ M.run n u = .next t := by
  rw [Host.Core.run] at h
  split at h
  · exact ⟨_, ‹_›, h⟩
  · cases h
  · cases h

/-- A run begins with its first step. -/
theorem runSteps_succ {s t : State} (h : step s = .next t) (n : Nat) : runSteps (n + 1) s = runSteps n t :=
  coreRun_succ (M := Sys2Proof.core) h n

/-- A run that completes began with a step that completes. -/
theorem runSteps_succ_eq_next {s t : State} {n : Nat} (h : runSteps (n + 1) s = .next t) :
    ∃ u, step s = .next u ∧ runSteps n u = .next t :=
  coreRun_succ_eq_next (M := Sys2Proof.core) h

/-- Two runs, one after the other. -/
theorem runSteps_add {s t : State} {m : Nat} (n : Nat) (h : runSteps m s = .next t) :
    runSteps (m + n) s = runSteps n t := by
  induction m generalizing s with
  | zero =>
    cases h
    rw [Nat.zero_add]
  | succ m ih =>
    obtain ⟨u, hs, hu⟩ := runSteps_succ_eq_next h
    rw [Nat.succ_add, runSteps_succ hs]
    exact ih hu

/-- A property that every completing step keeps holds at the end of every completing run. -/
theorem runSteps_keeps {P : State → Prop} (hP : ∀ s t, P s → step s = .next t → P t) {n : Nat} {s t : State}
    (h : runSteps n s = .next t) (hs : P s) : P t := by
  induction n generalizing s with
  | zero =>
    cases h
    exact hs
  | succ n ih =>
    obtain ⟨u, hu, hr⟩ := runSteps_succ_eq_next h
    exact ih hr (hP s u hs hu)

end Sys2Proof.Machine
end

