-- ==== Sys2Proof/Laws/Schedule.lean ====
section
/-! SUPPORT. What the block does does not depend on what ENV still has to do: a move of the block commutes with a change
of the schedule, and so does a run of a busy block under a byte that waits for quiescence. -/

namespace Sys2Proof.Machine

/-- The same state with another schedule. -/
def reschedule (x : List Turn) (s : State) : State := { s with env := { s.env with turns := x } }

theorem mapNext_mapNext (f g : State → State) (r : Result) :
    mapNext f (mapNext g r) = mapNext (fun s => f (g s)) r := by cases r <;> rfl

theorem firstByte_reschedule (x : List Turn) (b : Byte) (act : State → State)
    (ha : ∀ s, act (reschedule x s) = reschedule x (act s)) (s : State) :
    firstByte b act (reschedule x s) = mapNext (reschedule x) (firstByte b act s) := by
  unfold firstByte
  rw [show (reschedule x s).ps = s.ps from rfl]
  cases s.ps.stage <;> simp [mapNext]
  rw [← ha]
  rfl

theorem secondByte_reschedule (x : List Turn) (b : Byte) (act : State → State)
    (ha : ∀ s, act (reschedule x s) = reschedule x (act s)) (s : State) :
    secondByte b act (reschedule x s) = mapNext (reschedule x) (secondByte b act s) := by
  unfold secondByte
  rw [show (reschedule x s).ps = s.ps from rfl]
  cases s.ps.stage <;> simp [mapNext]
  rw [← ha]
  rfl

theorem exec_reschedule (x : List Turn) (i : Instr) (s : State) :
    exec i (reschedule x s) = mapNext (reschedule x) (exec i s) := by
  cases i <;> first
    | (refine firstByte_reschedule x _ _ ?_ _; intro; rfl)
    | (refine secondByte_reschedule x _ _ ?_ _; intro; rfl)

theorem orRaise_reschedule (x : List Turn) (s : State) (e e' : Except FaultReason State)
    (h : e' = e.map (reschedule x)) : orRaise (reschedule x s) e' = mapNext (reschedule x) (orRaise s e) := by
  subst h
  cases e <;> rfl

theorem driverStep_reschedule (x : List Turn) (s : State) :
    driverStep (reschedule x s) = mapNext (reschedule x) (driverStep s) := by
  unfold driverStep
  refine orRaise_reschedule _ _ _ _ ?_
  rw [show (reschedule x s).drv = s.drv from rfl]
  cases h : s.drv.step
  case lookup =>
    show Except.map _ (tableRead s.ps.value.toNat) = Except.map _ (Except.map _ (tableRead s.ps.value.toNat))
    cases tableRead s.ps.value.toNat <;> rfl
  case txWrite =>
    simp only [drvTxWrite, writeTxReg]
    show Except.map _ (if (!s.eng || inTransfer s) = true then _ else _) = _
    split <;> rfl
  case waitDone =>
    simp only [drvWaitDone]
    show Except.ok (if s.done = true then _ else _) = _
    split <;> rfl
  case engStop =>
    simp only [drvEngStop, writeEng]
    show Except.map _ (if (!false && inTransfer s) = true then _ else _) = _
    split <;> rfl
  case loopOff =>
    simp only [drvLoopOff, writeLoop]
    show Except.map _ (if (!false && inTransfer s) = true then _ else _) = _
    split <;> rfl
  all_goals rfl

theorem sendStringByte_reschedule (x : List Turn) (s : State) (r : Except FaultReason Byte) :
    sendStringByte r (reschedule x s) = mapNext (reschedule x) (sendStringByte r s) := by
  unfold sendStringByte
  show (if txFree s = true then _ else _) = _
  split
  · refine orRaise_reschedule _ _ _ _ ?_
    cases r <;> rfl
  · rfl

theorem mainStep_reschedule (x : List Turn) (s : State) :
    mainStep (reschedule x s) = mapNext (reschedule x) (mainStep s) := by
  unfold mainStep
  rw [show (reschedule x s).seq.phase = s.seq.phase from rfl]
  cases h : s.seq.phase <;> dsimp only
  case halted => rfl
  case prompt =>
    unfold promptStep
    show (if s.seq.idx.val < 21 then _ else _) = _
    split
    · exact sendStringByte_reschedule _ _ _
    · rfl
  case idle =>
    unfold idleStep
    show (if s.rxp = true then _ else _) = _
    split
    · unfold wakeStep
      rw [show stageFormat (reschedule x s).ps.stage = stageFormat s.ps.stage from rfl]
      cases hf : stageFormat s.ps.stage
      · rfl
      · dsimp only
        show mapNext _ (exec (decodeByte _ s.lrb) (reschedule x (clearRxp s))) = _
        rw [exec_reschedule, mapNext_mapNext, mapNext_mapNext]
        rfl
    · rfl
  case dispatch =>
    unfold dispatchStep
    rw [show (reschedule x s).ps.stage = s.ps.stage from rfl]
    cases s.ps.stage <;> rfl
  case apply => exact driverStep_reschedule _ _
  case invmsg =>
    unfold invmsgStep
    show (if s.seq.idx.val < 21 then _ else _) = _
    split
    · exact sendStringByte_reschedule _ _ _
    · rfl

/-- A move of the block does not read the schedule. -/
theorem blockStep_reschedule (x : List Turn) (s : State) :
    blockStep (reschedule x s) = mapNext (reschedule x) (blockStep s) := by
  unfold blockStep unlessFaulted
  show (if s.fault = FaultSet.empty then (if engineEnabled s = true then _ else _) else _) = _
  split
  · split
    · unfold engineStep
      show Host.Outcome.next (if engineEnabled s = true then _ else _) = _
      rw [if_pos ‹_›, if_pos ‹_›]
      rfl
    · exact mainStep_reschedule _ _
  · rfl

/-- A busy block moves under a byte that waits for quiescence as it moves by itself. -/
theorem step_reschedule {b : Byte} {rest : List Turn} {s t : State} (hq : quiescent s = false)
    (ht : s.env.turns = []) (h : step s = .next t) :
    step (reschedule (.rxWhenReady b :: rest) s) = .next (reschedule (.rxWhenReady b :: rest) t) := by
  have e : step s = mapNext tick (blockStep s) := by simp [step, machineStep, turnStep, ht]
  have e' : step (reschedule (.rxWhenReady b :: rest) s) =
      mapNext tick (blockStep (reschedule (.rxWhenReady b :: rest) s)) := by
    show mapNext tick (if quiescent (reschedule (.rxWhenReady b :: rest) s) then _ else _) = _
    rw [show quiescent (reschedule (.rxWhenReady b :: rest) s) = false from hq]
    rfl
  rw [e', blockStep_reschedule]
  rw [e] at h
  cases hb : blockStep s with
  | next u =>
    rw [hb] at h
    cases h
    rfl
  | fault u => rw [hb] at h; cases h
  | refused u => rw [hb] at h; cases h

end Sys2Proof.Machine
end

