-- ==== Sys2Proof/Tests/Slice0.lean ====
section
/-! SUPPORT. Small tests whose results come from the spec (95_test_vectors), and for every obligation with hypotheses
a state that meets them all together. -/

namespace Sys2Proof.Tests

open Sys2Proof.Machine

/-! ## States to test on -/

/-- MAIN idle, nothing pending, no byte to come: the state Q0 of 95_test_vectors but for the logs. -/
def idleState : State := { State.reset with seq := ⟨.idle, 0⟩ }

/-- Idle with a `'1'` pending (95_test_vectors 5.4). -/
def pendingState : State := { idleState with ps := ⟨.await2, 1⟩, cb := ⟨1, 0x31, 0⟩ }

/-- Woken by a byte. -/
def awake (b : Byte) (s : State) : State := { s with lrb := b, rxp := true }

/-- With a schedule. -/
def withTurns (ts : List Turn) (s : State) : State := { s with env := ⟨ts, 0, 0⟩ }

/-- With the transmit buffer full. -/
def withWait (n : Nat) (s : State) : State := { s with env := ⟨s.env.turns, n, 0⟩ }

/-- In a phase, with a parser state. -/
def inPhase (p : Phase) (i : Fin 22) (v : ParserState) : State := { State.reset with seq := ⟨p, i⟩, ps := v }

/-- `apply(5)` before step 1 has run. -/
def atLookup : State := inPhase .apply 0 ⟨.resolved, 5⟩

/-- `apply(5)`, chip-select low, the loopback on, the engine stopped. -/
def selected (k : DrvStep) : State :=
  { atLookup with drv := ⟨k, 0x80⟩, csn := false, loop := true, spiLog := [.csLow] }

/-- `apply(5)` with the engine running and four bits sent (95_test_vectors 4, row 9: `CSN = 0`, `SHCNT = 4`). -/
def midTransfer : State :=
  { selected .waitDone with
    eng := true, txReg := 0x80, rxsh := 0x80, shcnt := 4, mosi := false
    spiLog := [.csLow, .bit 7 true, .bit 6 false, .bit 5 false, .bit 4 false] }

/-- `apply(5)` after the transfer. -/
def sentState (k : DrvStep) : State :=
  { selected k with
    txReg := 0x80, rxsh := 0x80
    spiLog := [.csLow, .bit 7 true, .bit 6 false, .bit 5 false, .bit 4 false] ++
      [.bit 3 false, .bit 2 false, .bit 1 false, .bit 0 false] }

/-- The outcome is a next state with the property. -/
def holds (r : Result) (p : State → Bool) : Bool :=
  match r with
  | .next t => p t
  | .fault _ => false
  | .refused _ => false

/-! ## Well-formedness: one refused term for each check -/

theorem test_wf_ok : wellFormed (.inv1 0x0D) = true ∧ wellFormed (.inv2 0x31) = true ∧ wellFormed .set10 = true := by
  decide

theorem test_wf_inv1_refuses_digits :
    wellFormed (.inv1 0x30) = false ∧ wellFormed (.inv1 0x35) = false ∧ wellFormed (.inv1 0x39) = false := by decide

theorem test_wf_inv2_refuses_zero : wellFormed (.inv2 0x30) = false := by decide

theorem test_wf_inv2_refuses_cr : wellFormed (.inv2 0x0D) = false := by decide

/-! ## Decoding: bytes written out from 30_encoding R64 and R65, bit 7 first -/

theorem test_decode_digits :
    decodeByte .f1 0b00110000 = .set0 ∧ decodeByte .f1 0b00110001 = .pfx1 ∧ decodeByte .f1 0b00110010 = .set2 ∧
    decodeByte .f1 0b00110011 = .set3 ∧ decodeByte .f1 0b00110100 = .set4 ∧ decodeByte .f1 0b00110101 = .set5 ∧
    decodeByte .f1 0b00110110 = .set6 ∧ decodeByte .f1 0b00110111 = .set7 ∧ decodeByte .f1 0b00111000 = .set8 ∧
    decodeByte .f1 0b00111001 = .set9 := by decide

/-- 95_test_vectors 2.1: `/`, `:`, carriage return, and `'5'` with bit 7 set. -/
theorem test_decode_inv1 :
    decodeByte .f1 0b00101111 = .inv1 0x2F ∧ decodeByte .f1 0b00111010 = .inv1 0x3A ∧
    decodeByte .f1 0b00001101 = .inv1 0x0D ∧ decodeByte .f1 0b10110101 = .inv1 0xB5 := by decide

theorem test_decode_second :
    decodeByte .f2 0b00110000 = .set10 ∧ decodeByte .f2 0b00001101 = .set1 := by decide

/-- 95_test_vectors 2.2: line feed, `'1'`, `'5'`, and the two accepted bytes with bit 7 set. -/
theorem test_decode_inv2 :
    decodeByte .f2 0b00001010 = .inv2 0x0A ∧ decodeByte .f2 0b00110001 = .inv2 0x31 ∧
    decodeByte .f2 0b00110101 = .inv2 0x35 ∧ decodeByte .f2 0b10001101 = .inv2 0x8D ∧
    decodeByte .f2 0b10110000 = .inv2 0xB0 := by decide

/-- 30_encoding R61: the same byte in the two formats; R67: a consumed byte is not parsed again (program P4's start). -/
theorem test_decode_stream :
    decodeStream .f1 [0x31, 0x30, 0x30, 0x31, 0x35, 0x35] = [.pfx1, .set10, .set0, .pfx1, .inv2 0x35, .set5] := by decide

/-- No two rows of the opcode table select the same byte in the same format. -/
theorem test_rows_do_not_overlap :
    opcodeRows.Pairwise (fun r q => r.format ≠ q.format ∨ r.pattern &&& q.mask ≠ q.pattern &&& r.mask) := by decide

theorem test_decode_no_byte : decode .f1 [] = .error .noByte := by decide

/-- The words of the opcode table: `SET0` is one byte, `SET10` is longer (its field has a bit 10). -/
theorem test_table_words :
    decodeTableWord 8 0x30 = some .set0 ∧ decodeTableWord 16 0x30 = some .set10 ∧
    decodeTableWord 8 0x0D = some .set1 ∧ decodeTableWord 8 0x35 = some .set5 := by decide

/-! ## The byte classes (95_test_vectors 2.1 and 2.2) -/

theorem test_exec_set0 : holds (exec .set0 idleState) (fun t => t.ps == ⟨.resolved, 0⟩ && t.cb == ⟨1, 0x30, 0⟩) = true := by
  decide
theorem test_exec_pfx1 : holds (exec .pfx1 idleState) (fun t => t.ps == ⟨.await2, 1⟩ && t.cb == ⟨1, 0x31, 0⟩) = true := by
  decide
theorem test_exec_set2 : holds (exec .set2 idleState) (fun t => t.ps == ⟨.resolved, 2⟩) = true := by decide
theorem test_exec_set3 : holds (exec .set3 idleState) (fun t => t.ps == ⟨.resolved, 3⟩) = true := by decide
theorem test_exec_set4 : holds (exec .set4 idleState) (fun t => t.ps == ⟨.resolved, 4⟩) = true := by decide
theorem test_exec_set5 : holds (exec .set5 idleState) (fun t => t.ps == ⟨.resolved, 5⟩) = true := by decide
theorem test_exec_set6 : holds (exec .set6 idleState) (fun t => t.ps == ⟨.resolved, 6⟩) = true := by decide
theorem test_exec_set7 : holds (exec .set7 idleState) (fun t => t.ps == ⟨.resolved, 7⟩) = true := by decide
theorem test_exec_set8 : holds (exec .set8 idleState) (fun t => t.ps == ⟨.resolved, 8⟩) = true := by decide
theorem test_exec_set9 : holds (exec .set9 idleState) (fun t => t.ps == ⟨.resolved, 9⟩ && t.cb == ⟨1, 0x39, 0⟩) = true := by
  decide
theorem test_exec_inv1 :
    holds (exec (.inv1 0x61) idleState) (fun t => t.ps == ⟨.invalid, idleState.ps.value⟩ && t.cb == ⟨1, 0x61, 0⟩) = true := by
  decide
theorem test_exec_set10 :
    holds (exec .set10 pendingState) (fun t => t.ps == ⟨.resolved, 10⟩ && t.cb == ⟨2, 0x31, 0x30⟩) = true := by decide
theorem test_exec_set1 :
    holds (exec .set1 pendingState) (fun t => t.ps == ⟨.resolved, 1⟩ && t.cb == ⟨2, 0x31, 0x0D⟩) = true := by decide
theorem test_exec_inv2 :
    holds (exec (.inv2 0x35) pendingState) (fun t => t.ps == ⟨.invalid, 1⟩ && t.cb == ⟨2, 0x31, 0x35⟩) = true := by decide

/-! ## Steps -/

/-- 95_test_vectors 5.2, row 2, through the word of the opcode table. -/
theorem test_fetch_set5 :
    holds (step (State.reset.withFetchWord 8 0x35))
      (fun t => t.ps == ⟨.resolved, 5⟩ && t.seq == ⟨.dispatch, 0⟩ && !t.rxp && t.lrb == 0x35) = true := by decide

theorem test_fetch_set10 :
    holds (step (State.reset.withFetchWord 16 0x30)) (fun t => t.ps == ⟨.resolved, 10⟩ && t.cb == ⟨2, 0x31, 0x30⟩) = true := by
  decide

/-- 95_test_vectors 5.1, step 1. -/
theorem test_first_step_from_reset :
    holds (step State.reset) (fun t => t.txLog == [0x0A] && t.seq == ⟨.prompt, 1⟩) = true := by decide

/-- 95_test_vectors 5.2, row 1. -/
theorem test_interrupt :
    holds (step (withTurns [.rxByte 0x35] idleState))
      (fun t => t.txLog == [0x35] && t.lrb == 0x35 && t.rxp && t.seq == ⟨.idle, 0⟩) = true := by decide

/-- V37: a byte during the prompt. -/
theorem test_overrun :
    holds (step (withTurns [.rxByte 0x35] State.reset))
      (fun t => t.fault == ⟨false, true, false⟩ && t.txLog == [] && !t.rxp) = true := by decide

/-- V39: a byte during the transfer leaves the transfer where it is. -/
theorem test_overrun_mid_transfer :
    holds (step (withTurns [.rxByte 0x30] midTransfer))
      (fun t => t.fault == ⟨false, true, false⟩ && t.shcnt == 4 && t.spiLog == midTransfer.spiLog) = true := by decide

/-- V7, V8, V9, V10, V11. -/
theorem test_space_reads :
    tableRead 11 = .error .contractViolation ∧ tableRead 15 = .error .contractViolation ∧ promptRead 0 = .ok 0x0A ∧
    promptRead 1 = .ok 0x0D ∧ promptRead 20 = .ok 0x20 ∧ invalidMsgRead 0 = .ok 0x20 ∧
    invalidMsgRead 2 = .ok 0x2A ∧ invalidMsgRead 20 = .ok 0x2A ∧ promptRead 21 = .error .contractViolation := by decide

/-- 95_test_vectors 3, row 6: 0x9A on the bus. -/
theorem test_bus_frame :
    spiWrite 0x9A = [.csLow, .bit 7 true, .bit 6 false, .bit 5 false, .bit 4 true] ++
      [.bit 3 true, .bit 2 false, .bit 1 true, .bit 0 false, .csHigh] := by decide

/-- The fifth bit of the transfer: bit 3 of 0x80. -/
theorem test_engine_bit :
    holds (step midTransfer) (fun t => t.shcnt == 5 && t.spiLog == midTransfer.spiLog ++ [.bit 3 false] && !t.done) = true := by
  decide

/-- 93_implementation_defined I6: with the loopback off the shadow byte is not written. -/
theorem test_engine_bit_without_loopback :
    holds (step { midTransfer with loop := false, rxsh := 0xFF })
      (fun t => t.shcnt == 5 && t.rxsh == 0xFF) = true := by decide

/-- The eighth bit sets DONE. -/
theorem test_engine_last_bit :
    holds (step { midTransfer with shcnt := 7 }) (fun t => t.shcnt == 8 && t.done) = true := by decide

/-- A setting of 11: ContractViolation, and no bus event. -/
theorem test_contract_violation :
    holds (step { atLookup with ps := ⟨.resolved, 11⟩ })
      (fun t => t.fault == ⟨true, false, false⟩ && t.spiLog == [] && t.csn) = true := by decide

/-! ## The hypotheses of each obligation are met -/

theorem test_hyps_first_byte_classes :
    State.reset.ps.stage = .await1 ∧ isDigit 0x2F = false ∧ isDigit 0x3A = false ∧ isDigit 0x00 = false ∧
    isDigit 0xFF = false := by decide

theorem test_hyps_second_byte_classes :
    pendingState.ps.stage = .await2 ∧ (0x2F : Byte) ≠ 0x30 ∧ (0x2F : Byte) ≠ 0x0D ∧ (0x0A : Byte) ≠ 0x30 ∧
    (0x0A : Byte) ≠ 0x0D := by decide

theorem test_hyps_TerminalStagesTakeNoByte :
    atLookup.ps.stage = .resolved ∧ (inPhase .invmsg 0 ⟨.invalid, 0⟩).ps.stage = .invalid ∧
    idleState.ps.stage = .await1 ∧ instrFormat .set10 = .f2 ∧ pendingState.ps.stage = .await2 ∧
    instrFormat .set0 = .f1 := by decide

theorem test_hyps_ByteClassFrame_first :
    ∃ t, exec .set0 idleState = .next t ∧ instrFormat .set0 = .f1 := ⟨_, rfl, rfl⟩

theorem test_hyps_ByteClassFrame_second :
    ∃ t, exec (.inv2 0x35) pendingState = .next t ∧ instrFormat (.inv2 0x35) = .f2 ∧ t.ps.stage = .invalid :=
  ⟨_, rfl, rfl, rfl⟩

theorem test_hyps_DecodeOfEncodedStream :
    isCommandStream .f1 [.pfx1, .set10, .inv1 0x0D, .set9, .pfx1, .inv2 0xFF, .set0] = true ∧
    isCommandStream .f2 [.set1, .set2] = true := by decide

theorem test_hyps_TableIsTotalAndInjective :
    tableRead (0 : Fin 11) = tableRead (0 : Fin 11) ∧ tableRead (10 : Fin 11) = tableRead (10 : Fin 11) := by decide

theorem test_hyps_ReadsOutsideASpaceFault : 10 < 11 ∧ 20 < 21 ∧ 0 < 1 := by decide

theorem test_hyps_resets :
    (withTurns [.reset true] midTransfer).env.turns = .reset true :: [] ∧
    (withTurns [.reset false, .main] State.reset).env.turns = .reset false :: [.main] ∧
    ∀ ok, .reset ok ∉ [Turn.main] := by decide

theorem test_hyps_HaltedStaysSilent :
    (haltedState ⟨[.rxByte 0x35], 0, 0⟩).seq.phase = .halted ∧
    (haltedState ⟨[.rxByte 0x35], 0, 0⟩).fault = FaultSet.empty ∧
    ∀ ok, (haltedState ⟨[.rxByte 0x35], 0, 0⟩).env.turns.head? ≠ some (.reset ok) := by decide

theorem test_hyps_InterruptEchoesStoresWakes :
    quiescent (withTurns [.rxByte 0x35] idleState) = true ∧ (withTurns [.rxByte 0x35] idleState).env.txWait = 0 ∧
    (withTurns [.rxByte 0x35] idleState).env.turns = .rxByte 0x35 :: [] ∧
    quiescent (withTurns [.rxWhenReady 0x35] pendingState) = true ∧
    (withTurns [.rxWhenReady 0x35] pendingState).env.turns = .rxWhenReady 0x35 :: [] := by decide

theorem test_hyps_SendWaitsForTheBuffer :
    0 < (withWait 1 (withTurns [.rxByte 0x35] idleState)).env.txWait ∧
    quiescent (withWait 1 (withTurns [.rxByte 0x35] idleState)) = true ∧
    (withWait 1 (withTurns [.rxByte 0x35] idleState)).env.turns = .rxByte 0x35 :: [] ∧
    ∀ p ∈ [Phase.prompt, .invmsg], 0 < (withWait 2 (inPhase p 20 ⟨.invalid, 1⟩)).env.txWait ∧
      MainMoves (withWait 2 (inPhase p 20 ⟨.invalid, 1⟩)) ∧ (withWait 2 (inPhase p 20 ⟨.invalid, 1⟩)).seq.phase = p ∧
      (withWait 2 (inPhase p 20 ⟨.invalid, 1⟩)).seq.idx.val < 21 := by decide

theorem test_hyps_ByteWhileBusyOverruns :
    (withTurns [.rxByte 0x36] (awake 0x35 idleState)).env.turns = .rxByte 0x36 :: [] ∧
    quiescent (withTurns [.rxByte 0x36] (awake 0x35 idleState)) = false ∧
    (withTurns [.rxByte 0x36] (awake 0x35 idleState)).seq.phase ≠ .halted := by decide

theorem test_hyps_ByteInHaltedIsIgnored :
    (haltedState ⟨[.rxByte 0x35], 0, 0⟩).env.turns = .rxByte 0x35 :: [] ∧
    (haltedState ⟨[.rxByte 0x35], 0, 0⟩).seq.phase = .halted := by decide

theorem test_hyps_StepRunsDecodedByte_alone :
    (awake 0x35 idleState).fault = FaultSet.empty ∧ (awake 0x35 idleState).seq.phase = .idle ∧
    (awake 0x35 idleState).rxp = true ∧ stageFormat (awake 0x35 idleState).ps.stage = some .f1 ∧
    decode .f1 ((awake 0x35 idleState).lrb :: []) = .ok (.set5, []) ∧ (awake 0x35 idleState).env.turns = [] ∧
    engineEnabled (awake 0x35 idleState) = false := by decide

theorem test_hyps_StepRunsDecodedByte_scheduled :
    (withTurns [.main] (awake 0x30 pendingState)).fault = FaultSet.empty ∧
    (withTurns [.main] (awake 0x30 pendingState)).seq.phase = .idle ∧
    (withTurns [.main] (awake 0x30 pendingState)).rxp = true ∧
    stageFormat (withTurns [.main] (awake 0x30 pendingState)).ps.stage = some .f2 ∧
    decode .f2 ((withTurns [.main] (awake 0x30 pendingState)).lrb :: []) = .ok (.set10, []) ∧
    (withTurns [.main] (awake 0x30 pendingState)).env.turns = .main :: [] := by decide

theorem test_hyps_WakeConsumesOneByte :
    MainMoves (awake 0x35 idleState) ∧ (awake 0x35 idleState).seq.phase = .idle ∧ (awake 0x35 idleState).rxp = true ∧
    (awake 0x35 idleState).ps.stage = formatStage .f1 ∧ MainMoves (awake 0x78 pendingState) ∧
    (awake 0x78 pendingState).ps.stage = formatStage .f2 := by decide

theorem test_hyps_PromptSendsNextByte :
    ∀ i ∈ [(0 : Fin 22), 20], MainMoves (inPhase .prompt i ⟨.resolved, 5⟩) ∧
      (inPhase .prompt i ⟨.resolved, 5⟩).seq.phase = .prompt ∧ (inPhase .prompt i ⟨.resolved, 5⟩).seq.idx.val < 21 ∧
      (inPhase .prompt i ⟨.resolved, 5⟩).env.txWait = 0 := by decide

theorem test_hyps_PromptEndRestartsParser :
    MainMoves (inPhase .prompt 21 ⟨.resolved, 5⟩) ∧ (inPhase .prompt 21 ⟨.resolved, 5⟩).seq.phase = .prompt ∧
    (inPhase .prompt 21 ⟨.resolved, 5⟩).seq.idx = 21 := by decide

theorem test_hyps_DispatchFollowsStage :
    ∀ st ∈ [Stage.await1, .await2, .resolved, .invalid],
      MainMoves (inPhase .dispatch 0 ⟨st, 1⟩) ∧ (inPhase .dispatch 0 ⟨st, 1⟩).seq.phase = .dispatch ∧
      (inPhase .dispatch 0 ⟨st, 1⟩).ps.stage = st := by decide

theorem test_hyps_InvalidArmSendsMessage :
    ∀ i ∈ [(0 : Fin 22), 20, 21], MainMoves (inPhase .invmsg i ⟨.invalid, 1⟩) ∧
      (inPhase .invmsg i ⟨.invalid, 1⟩).seq.phase = .invmsg ∧ (inPhase .invmsg i ⟨.invalid, 1⟩).env.txWait = 0 := by
  decide

theorem test_hyps_LookupLatchesControlByte :
    ∀ v ∈ [(0 : Setting), 10, 11, 15], MainMoves (inPhase .apply 0 ⟨.resolved, v⟩) ∧
      (inPhase .apply 0 ⟨.resolved, v⟩).seq.phase = .apply ∧ (inPhase .apply 0 ⟨.resolved, v⟩).drv.step = .lookup ∧
      ((inPhase .apply 0 ⟨.resolved, v⟩).ps.value.toNat ≤ 10 ∨
        10 < (inPhase .apply 0 ⟨.resolved, v⟩).ps.value.toNat) := by decide

theorem test_hyps_driver_steps :
    ∀ k ∈ [DrvStep.csAssert, .loopOn, .engStart, .waitDone, .discard, .engStop, .loopOff, .csDeassert],
      MainMoves (selected k) ∧ (selected k).seq.phase = .apply ∧ (selected k).drv.step = k ∧
      (selected k).shcnt = 8 ∧ (selected k).done = false := by decide

theorem test_hyps_WaitThenDiscard_done :
    MainMoves { sentState .waitDone with eng := true, done := true } ∧
    ({ sentState .waitDone with eng := true, done := true } : State).drv.step = .waitDone ∧
    ({ sentState .waitDone with eng := true, done := true } : State).done = true := by decide

theorem test_hyps_TransmitWriteStartsTransfer :
    MainMoves { selected .txWrite with eng := true } ∧ ({ selected .txWrite with eng := true } : State).seq.phase = .apply ∧
    ({ selected .txWrite with eng := true } : State).drv.step = .txWrite ∧
    ({ selected .txWrite with eng := true } : State).eng = true ∧
    ({ selected .txWrite with eng := true } : State).shcnt = 8 := by decide

theorem test_hyps_MisuseOfTheEngine :
    (selected .txWrite).eng = false ∧ MainMoves (selected .txWrite) ∧ (selected .txWrite).seq.phase = .apply ∧
    (selected .txWrite).drv.step = .txWrite ∧ MainMoves { selected .engStop with shcnt := 7 } ∧
    ({ selected .engStop with shcnt := 7 } : State).drv.step = .engStop ∧
    ({ selected .engStop with shcnt := 7 } : State).shcnt.val < 8 ∧ MainMoves { selected .loopOff with shcnt := 0 } ∧
    ({ selected .loopOff with shcnt := 0 } : State).drv.step = .loopOff := by decide

theorem test_hyps_EngineSendsOneBit :
    midTransfer.fault = FaultSet.empty ∧ midTransfer.seq.phase ≠ .halted ∧ midTransfer.env.turns = [] ∧
    midTransfer.eng = true ∧ midTransfer.shcnt.val < 8 ∧ midTransfer.loop = true := by decide

theorem test_hyps_BitStepWithoutLoopbackKeepsShadow :
    engineEnabled { midTransfer with loop := false } = true ∧
    ({ midTransfer with loop := false } : State).loop = false := by decide

theorem test_hyps_TransferShadowsTransmitRegister :
    ({ midTransfer with shcnt := 0 } : State).fault = FaultSet.empty ∧
    ({ midTransfer with shcnt := 0 } : State).seq.phase ≠ .halted ∧
    ({ midTransfer with shcnt := 0 } : State).env.turns = [] ∧ ({ midTransfer with shcnt := 0 } : State).eng = true ∧
    ({ midTransfer with shcnt := 0 } : State).loop = true ∧ ({ midTransfer with shcnt := 0 } : State).shcnt = 0 := by decide

theorem test_hyps_ApplyInEighteenSteps :
    atLookup.fault = FaultSet.empty ∧ atLookup.env.turns = [] ∧ atLookup.seq.phase = .apply ∧
    atLookup.drv.step = .lookup ∧ atLookup.ps.value.toNat ≤ 10 ∧ atLookup.csn = true ∧ atLookup.loop = false ∧
    atLookup.eng = false ∧ atLookup.done = false ∧ atLookup.shcnt = 8 := by decide

theorem test_inv_idle : Inv idleState := by constructor <;> decide
theorem test_inv_pending : Inv pendingState := by constructor <;> decide
theorem test_inv_mid_transfer : Inv midTransfer := by constructor <;> decide
theorem test_inv_lookup : Inv atLookup := by constructor <;> decide
theorem test_inv_halted (e : Env) : Inv (haltedState e) :=
  ⟨fun _ => ⟨rfl, rfl, rfl⟩, fun h => absurd rfl h, fun h => absurd rfl h, fun h => absurd rfl h,
    fun h => absurd rfl h, fun h => absurd rfl h⟩

theorem test_hyps_EngineAndMainNeverBoth : Inv midTransfer ∧ engineEnabled midTransfer = true :=
  ⟨test_inv_mid_transfer, by decide⟩

theorem test_hyps_OneByteMatchesOnByte_first :
    Inv (withTurns [.rxByte 0x35] idleState) ∧ quiescent (withTurns [.rxByte 0x35] idleState) = true ∧
    (withTurns [.rxByte 0x35] idleState).ps.stage = formatStage .f1 ∧
    (withTurns [.rxByte 0x35] idleState).env.turns = [.rxByte 0x35] ∧
    (withTurns [.rxByte 0x35] idleState).env.txWait = 0 := ⟨by constructor <;> decide, by decide⟩

theorem test_hyps_OneByteMatchesOnByte_second :
    Inv (withTurns [.rxByte 0x78] pendingState) ∧ quiescent (withTurns [.rxByte 0x78] pendingState) = true ∧
    (withTurns [.rxByte 0x78] pendingState).ps.stage = formatStage .f2 ∧
    (withTurns [.rxByte 0x78] pendingState).env.turns = [.rxByte 0x78] ∧
    (withTurns [.rxByte 0x78] pendingState).env.txWait = 0 := ⟨by constructor <;> decide, by decide⟩

/-- The step numbers of BusyUntilTheCountedStep, beside the states of the two theorems above. -/
theorem test_hyps_BusyUntilTheCountedStep :
    0 < 1 ∧ 42 < stepsFor .f1 0x35 ∧ 46 < stepsFor .f2 0x78 ∧ 2 < stepsFor .f1 0x31 := by decide

theorem test_hyps_InputSequenceIsFoldOfOnByte :
    Inv (withTurns [.rxWhenReady 0x31, .rxWhenReady 0x0D] idleState) ∧
    quiescent (withTurns [.rxWhenReady 0x31, .rxWhenReady 0x0D] idleState) = true ∧
    (withTurns [.rxWhenReady 0x31, .rxWhenReady 0x0D] idleState).ps.stage = formatStage .f1 ∧
    (withTurns [.rxWhenReady 0x31, .rxWhenReady 0x0D] idleState).env.turns =
      ([0x31, 0x0D] : List Byte).map .rxWhenReady ∧
    (withTurns [.rxWhenReady 0x31, .rxWhenReady 0x0D] idleState).env.txWait = 0 :=
  ⟨by constructor <;> decide, by decide⟩

theorem test_hyps_SameCommandTwice :
    Inv (withTurns [.rxWhenReady 0x35, .rxWhenReady 0x35] idleState) ∧
    quiescent (withTurns [.rxWhenReady 0x35, .rxWhenReady 0x35] idleState) = true ∧
    (withTurns [.rxWhenReady 0x35, .rxWhenReady 0x35] idleState).ps.stage = .await1 ∧ isDigit 0x35 = true ∧
    (0x35 : Byte) ≠ 0x31 ∧
    (withTurns [.rxWhenReady 0x35, .rxWhenReady 0x35] idleState).env.turns = [.rxWhenReady 0x35, .rxWhenReady 0x35] ∧
    (withTurns [.rxWhenReady 0x35, .rxWhenReady 0x35] idleState).env.txWait = 0 :=
  ⟨by constructor <;> decide, by decide⟩

theorem test_hyps_StepKeepsInvariant : Inv atLookup ∧ ∃ t, step atLookup = .next t := ⟨test_inv_lookup, _, rfl⟩

theorem test_hyps_OnlyOverrunCanStopTheBlock : Inv midTransfer ∧ midTransfer.fault = FaultSet.empty :=
  ⟨test_inv_mid_transfer, by decide⟩

theorem test_hyps_ResolvedSettingInRange :
    ((awake 0x35 idleState).ps.stage = .resolved → (awake 0x35 idleState).ps.value.toNat ≤ 10) ∧
    (awake 0x35 idleState).env.turns.head? ≠ some (.reset false) ∧
    ∃ t, step (awake 0x35 idleState) = .next t ∧ t.ps.stage = .resolved := ⟨by decide, by decide, _, rfl, rfl⟩

theorem test_hyps_LogsOnlyGrow :
    (∃ t, step State.reset = .next t) ∧ ∀ ok, State.reset.env.turns.head? ≠ some (.reset ok) := ⟨⟨_, rfl⟩, by decide⟩

theorem test_hyps_FaultsAreSticky :
    ∀ ts ∈ [[], [Turn.main], [Turn.engine]],
      (raise .rxOverrun (withTurns ts idleState)).fault ≠ FaultSet.empty ∧
      ((raise .rxOverrun (withTurns ts idleState)).env.turns = [] ∨
        (raise .rxOverrun (withTurns ts idleState)).env.turns.head? = some .main ∨
        (raise .rxOverrun (withTurns ts idleState)).env.turns.head? = some .engine) := by decide

theorem test_hyps_ChipSelectHasTwoWriters_low :
    (∃ t, step { atLookup with drv := ⟨.csAssert, 0x80⟩ } = .next t ∧ t.csn ≠ atLookup.csn) ∧
    ∀ ok, atLookup.env.turns.head? ≠ some (.reset ok) := ⟨⟨_, rfl, by decide⟩, by decide⟩

theorem test_hyps_ChipSelectHasTwoWriters_high :
    (∃ t, step (sentState .csDeassert) = .next t ∧ t.csn ≠ (sentState .csDeassert).csn) ∧
    ∀ ok, (sentState .csDeassert).env.turns.head? ≠ some (.reset ok) := ⟨⟨_, rfl, by decide⟩, by decide⟩

theorem test_hyps_SharedCellOwnership_cell :
    (∃ t, step (withTurns [.rxByte 0x35] idleState) = .next t ∧
      (∃ a, memRead .cell a t ≠ memRead .cell a (withTurns [.rxByte 0x35] idleState)) ∧ t.rxp = true) ∧
    (withTurns [.rxByte 0x35] idleState).rxp = false ∧
    ∀ ok, (withTurns [.rxByte 0x35] idleState).env.turns.head? ≠ some (.reset ok) :=
  ⟨⟨_, rfl, ⟨0, by decide⟩, rfl⟩, by decide, by decide⟩

theorem test_hyps_SharedCellOwnership_parser :
    (∃ t, step (awake 0x35 idleState) = .next t ∧ (t.ps ≠ (awake 0x35 idleState).ps ∨ t.cb ≠ (awake 0x35 idleState).cb)) ∧
    ∀ ok, (awake 0x35 idleState).env.turns.head? ≠ some (.reset ok) := ⟨⟨_, rfl, by decide⟩, by decide⟩

theorem test_hyps_PromptInTwentyTwoSteps :
    MainMoves State.reset ∧ State.reset.seq = ⟨.prompt, 0⟩ ∧ State.reset.env.txWait = 0 := by decide

theorem test_hyps_QuiescentWaitsForEver :
    Inv pendingState ∧ quiescent pendingState = true ∧ pendingState.env.turns = [] :=
  ⟨test_inv_pending, by decide⟩

end Sys2Proof.Tests
end

section
/-! SUPPORT. The shared rules of the family 10_state: what the frame scanner, FAULT and a turn of the block do. -/

namespace Sys2Proof.Machine

/-- The scanner reads a log event by event. -/
theorem busScan_append (l : List BusEvent) (e : BusEvent) :
    busScan (l ++ [e]) = (busScan l).bind (scanEvent · e) := by
  simp [busScan]

/-- The next bit of a frame, most significant first (20_memory R44). -/
theorem scanEvent_bit {n : Nat} (h : n < 8) (v : Level) :
    scanEvent (some n) (.bit (bitIndex n) v) = some (some (n + 1)) := by
  simp [scanEvent, bitIndex, h]

theorem engineEnabled_iff {s : State} :
    engineEnabled s = true ↔ s.seq.phase ≠ .halted ∧ s.eng = true ∧ s.shcnt.val < 8 := by
  simp [engineEnabled, inTransfer, and_assoc]

theorem quiescent_iff {s : State} :
    quiescent s = true ↔ s.seq.phase = .idle ∧ s.rxp = false ∧ s.fault = FaultSet.empty := by
  simp [quiescent, and_assoc]

/-- Every reason of `f` is one of `g`. -/
def FaultSet.Subset (f g : FaultSet) : Prop :=
  (f.contractViolation = true → g.contractViolation = true) ∧
  (f.rxOverrun = true → g.rxOverrun = true) ∧
  (f.engineMisuse = true → g.engineMisuse = true)

theorem FaultSet.Subset.refl (f : FaultSet) : f.Subset f := ⟨id, id, id⟩

theorem FaultSet.subset_addReason (r : FaultReason) (f : FaultSet) : f.Subset (addReason r f) := by
  cases r
  case contractViolation => exact ⟨fun _ => rfl, id, id⟩
  case rxOverrun => exact ⟨id, fun _ => rfl, id⟩
  case engineMisuse => exact ⟨id, id, fun _ => rfl⟩

theorem unlessFaulted_of_fault {s : State} (h : s.fault ≠ FaultSet.empty) (r : Result) :
    unlessFaulted s r = .fault (.stopped s.fault) := if_neg h

/-- A turn of the block, its own move or a scheduled one, is stopped by FAULT. -/
theorem turnStep_of_fault {s : State} (h : s.fault ≠ FaultSet.empty)
    (ht : s.env.turns = [] ∨ s.env.turns.head? = some .main ∨ s.env.turns.head? = some .engine) :
    turnStep s = .fault (.stopped s.fault) := by
  unfold turnStep
  split <;> rename_i hs <;> simp [hs] at ht
  · exact unlessFaulted_of_fault h _
  · rw [unlessFaulted_of_fault h]; rfl
  · rw [unlessFaulted_of_fault h]; rfl

end Sys2Proof.Machine
end

section
/-! What every move keeps of the logs, of FAULT and of chip-select (10_state R22, R29, R30). -/

namespace Sys2Proof.Machine

variable {s t : State}

theorem mainMove_logs_grow (h : MainMove s t) : s.txLog <+: t.txLog ∧ s.spiLog <+: t.spiLog := by
  cases h
  case promptByte | messageByte => exact ⟨List.prefix_append .., List.prefix_rfl⟩
  case csAssert | csDeassert => exact ⟨List.prefix_rfl, List.prefix_append ..⟩
  all_goals exact ⟨List.prefix_rfl, List.prefix_rfl⟩

theorem move_logs_grow (h : Move s t) : s.txLog <+: t.txLog ∧ s.spiLog <+: t.spiLog := by
  cases h
  case interrupt => exact ⟨List.prefix_append .., List.prefix_rfl⟩
  case engine => exact ⟨List.prefix_rfl, List.prefix_append ..⟩
  case main _ hm => exact mainMove_logs_grow hm
  case waits | overrun => exact ⟨List.prefix_rfl, List.prefix_rfl⟩

theorem mainMove_fault_subset (h : MainMove s t) : s.fault.Subset t.fault := by
  cases h
  case lookupFails | misuse => exact FaultSet.subset_addReason ..
  all_goals exact .refl _

theorem move_fault_subset (h : Move s t) : s.fault.Subset t.fault := by
  cases h
  case overrun => exact FaultSet.subset_addReason ..
  case main _ hm => exact mainMove_fault_subset hm
  case waits | interrupt | engine => exact .refl _

theorem mainMove_csn_changes (h : MainMove s t) (hc : t.csn ≠ s.csn) :
    s.seq.phase = .apply ∧
      (s.drv.step = .csAssert ∧ t.csn = false ∨ s.drv.step = .csDeassert ∧ t.csn = true) := by
  cases h
  case csAssert hp hd => exact ⟨hp, .inl ⟨hd, rfl⟩⟩
  case csDeassert hp hd => exact ⟨hp, .inr ⟨hd, rfl⟩⟩
  all_goals exact absurd rfl hc

theorem move_csn_changes (h : Move s t) (hc : t.csn ≠ s.csn) :
    s.seq.phase = .apply ∧
      (s.drv.step = .csAssert ∧ t.csn = false ∨ s.drv.step = .csDeassert ∧ t.csn = true) := by
  cases h
  case main _ hm => exact mainMove_csn_changes hm hc
  case waits | interrupt | overrun | engine => exact absurd rfl hc

end Sys2Proof.Machine
end

section
/-! The invariant of 10_state R36 under every move: one lemma for each part of `Inv` and MAIN's moves, then ENGINE's bit
step, ISR's interrupt, an overrun and the two resets. -/

namespace Sys2Proof.Machine

variable {s t : State}

theorem mainMove_keeps_parserInv (h : MainMove s t) (hi : ParserInv s) : ParserInv t := by
  obtain ⟨hv, h2, -, hf⟩ := id hi
  cases h
  case promptEnd => exact ⟨nofun, nofun, fun _ _ => rfl, rfl⟩
  case wake _ _ _ _ hn hv' h2' =>
    exact ⟨hv', fun h => and_assoc.1 (h2' h).symm, nofun, by simpa [stageFits] using hn⟩
  case toIdle hs => exact ⟨hv, h2, by simp [hs], by simp [stageFits, hs]⟩
  case toApply hs => exact ⟨hv, h2, nofun, by simp [stageFits, hs]⟩
  case toMessage hs => exact ⟨hv, h2, nofun, by simp [stageFits, hs]⟩
  case promptByte hp _ _ _ | messageByte hp _ _ _ => exact ⟨hv, h2, nofun, hp ▸ hf⟩
  case messageEnd hp _ | csDeassert hp _ =>
    have hs : s.ps.stage ≠ .await2 := fun hs => by simp [hp, hs, stageFits] at hf
    exact ⟨hv, h2, nofun, by simpa [stageFits] using hs⟩
  all_goals exact hi

/-- Outside phase APPLY the driver rests at step 0 (10_state R17). -/
theorem drvStep_eq_lookup (hs : SeqInv s) (hp : s.seq.phase ≠ .apply) : s.drv.step = .lookup := by
  obtain ⟨-, -, hd⟩ := hs
  exact hd hp

/-- MAIN has a move with RXP set in IDLE alone, and it enters every phase with the index and the driver's step at 0. -/
theorem mainMove_keeps_seqInv (h : MainMove s t) (hi : SeqInv s) : SeqInv t := by
  obtain ⟨hr, hx, hd⟩ := id hi
  have hd' {p : Phase} (hp : s.seq.phase = p) (hne : p ≠ .apply) : s.drv.step = .lookup := hd (hp ▸ hne)
  have hr' {p : Phase} {q : Prop} (hp : s.seq.phase = p) (hne : p ≠ .idle) (h : s.rxp = true) : q :=
    absurd (hr h) (hp ▸ hne)
  cases h
  case promptByte hp _ _ _ | messageByte hp _ _ _ =>
    exact ⟨hr' hp nofun, by simp, fun _ => hd' hp nofun⟩
  case promptEnd hp _ => exact ⟨fun _ => rfl, fun _ => rfl, fun _ => hd' hp nofun⟩
  case wake hp _ _ _ _ _ _ => exact ⟨nofun, fun _ => hx (.inl hp), fun _ => hd' hp nofun⟩
  case toIdle hp _ => exact ⟨fun _ => rfl, fun _ => hx (.inr (.inl hp)), fun _ => hd' hp nofun⟩
  case toApply hp _ => exact ⟨hr' hp nofun, fun _ => hx (.inr (.inl hp)), fun _ => rfl⟩
  case toMessage hp _ | messageEnd hp _ => exact ⟨hr' hp nofun, fun _ => rfl, fun _ => hd' hp nofun⟩
  case csDeassert hp _ => exact ⟨hr' hp nofun, fun _ => rfl, fun _ => rfl⟩
  case waits | lookupFails | misuse => exact hi
  all_goals exact ⟨hr, hx, fun h => absurd ‹s.seq.phase = .apply› h⟩

/-- The control bits follow the driver's step, and MAIN writes the one it moves past (10_state R36 (iv), (v)). -/
theorem mainMove_keeps_busInv (h : MainMove s t) (hi : BusInv s) (hs : SeqInv s) : BusInv t := by
  cases h
  case toApply hp _ =>
    have hd : s.drv.step = .lookup := drvStep_eq_lookup hs (by simp [hp])
    simpa [BusInv, hd] using hi
  case lookup hd _ | csAssert hd | loopOn hd | engStart hd | txWrite hd _ _ | transferDone hd _ | discard hd |
      engStop hd _ | loopOff hd _ | csDeassert hd =>
    simp_all [BusInv, stepIndex]
  all_goals exact hi

/-- A move that adds no bus event keeps the framing if it keeps chip-select and the count of bits sent. -/
theorem frameInv_congr (hl : t.spiLog = s.spiLog) (hc : t.csn = s.csn) (hb : bitsSent t = bitsSent s)
    (hi : FrameInv s) : FrameInv t := by
  rw [FrameInv, hl, hc, hb]
  exact hi

theorem mainMove_keeps_frameInv (h : MainMove s t) (hi : FrameInv s) (hb : BusInv s) (hs : SeqInv s) :
    FrameInv t := by
  obtain ⟨hcsn, -, -, -, h8⟩ := hb
  cases h
  case csAssert hd =>
    have hc : s.csn = true := by simp [hcsn, hd, stepIndex]
    have hscan : busScan s.spiLog = some none := by simpa [FrameInv, hc] using hi
    simp [FrameInv, busScan_append, hscan, scanEvent, bitsSent, stepIndex]
  case csDeassert hd =>
    have hc : s.csn = false := by simp [hcsn, hd, stepIndex]
    have hn : bitsSent s = 8 := by simp [bitsSent, h8 (by simp [hd]), hd, stepIndex]
    have hscan : busScan s.spiLog = some (some 8) := by simpa [FrameInv, hc, hn] using hi
    simp [FrameInv, busScan_append, hscan, scanEvent]
  case toApply hp _ =>
    have hd : s.drv.step = .lookup := drvStep_eq_lookup hs (by simp [hp])
    exact frameInv_congr (s := s) rfl rfl (by simp [bitsSent, hd]) hi
  case lookup hd _ | loopOn hd | engStart hd | txWrite hd _ _ | transferDone hd _ | discard hd | engStop hd _ |
      loopOff hd _ =>
    exact frameInv_congr (s := s) rfl rfl (by simp [bitsSent, hd, stepIndex]) hi
  all_goals exact hi

/-- The driver at step 0 carries nothing. -/
theorem transferInv_of_lookup (hd : s.drv.step = .lookup) : TransferInv s := by
  simp [TransferInv, hd, stepIndex]

theorem mainMove_keeps_transferInv (h : MainMove s t) (hi : TransferInv s) (hs : SeqInv s) : TransferInv t := by
  cases h
  case promptEnd hp _ | wake hp _ _ _ _ _ _ =>
    have hd : s.drv.step = .lookup := drvStep_eq_lookup hs (by simp [hp])
    exact transferInv_of_lookup hd
  case toApply | csDeassert => exact transferInv_of_lookup rfl
  case lookup hd hb => exact ⟨fun _ => hb, by simp [stepIndex], by simp [stepIndex]⟩
  case txWrite hd _ _ => simpa [TransferInv, hd, stepIndex] using hi.1
  case csAssert hd | loopOn hd | engStart hd | transferDone hd _ | discard hd | engStop hd _ | loopOff hd _ =>
    simpa [TransferInv, hd, stepIndex] using hi
  all_goals exact hi

/-- What `Inv` says of a block that is not halted. -/
structure RunInv (s : State) : Prop where
  parser : ParserInv s
  sequencer : SeqInv s
  bus : BusInv s
  frame : FrameInv s
  transfer : TransferInv s

theorem Inv.runInv (h : Inv s) (hn : s.seq.phase ≠ .halted) : RunInv s :=
  ⟨h.parser hn, h.sequencer hn, h.bus hn, h.frame hn, h.transfer hn⟩

theorem RunInv.inv (h : RunInv s) (hn : s.seq.phase ≠ .halted) : Inv s :=
  ⟨fun hp => absurd hp hn, fun _ => h.parser, fun _ => h.sequencer, fun _ => h.bus, fun _ => h.frame,
    fun _ => h.transfer⟩

theorem mainMove_keeps_runInv (h : MainMove s t) (hi : RunInv s) : RunInv t where
  parser := mainMove_keeps_parserInv h hi.parser
  sequencer := mainMove_keeps_seqInv h hi.sequencer
  bus := mainMove_keeps_busInv h hi.bus hi.sequencer
  frame := mainMove_keeps_frameInv h hi.frame hi.bus hi.sequencer
  transfer := mainMove_keeps_transferInv h hi.transfer hi.sequencer

/-- A transfer is in progress only while the driver waits for it. -/
theorem waitDone_of_shcnt_lt (hb : BusInv s) (hn : s.shcnt.val < 8) : s.drv.step = .waitDone := by
  obtain ⟨-, -, -, -, h8⟩ := hb
  by_contra hd
  simp [h8 hd] at hn

theorem shiftBit_keeps_busInv (hi : BusInv s) (hn : s.shcnt.val < 8) : BusInv (shiftBit s) := by
  have hd := waitDone_of_shcnt_lt hi hn
  have h8 : s.shcnt ≠ 8 := fun h => by simp [h] at hn
  have hlast : s.shcnt + 1 = 8 ↔ s.shcnt.val = 7 := by
    rw [Fin.ext_iff, shcnt_succ hn]
    exact Nat.succ_inj
  simp_all [BusInv, shiftBit, stepIndex, doneAfterBit]

theorem shiftBit_keeps_frameInv (hi : FrameInv s) (hb : BusInv s) (hn : s.shcnt.val < 8) :
    FrameInv (shiftBit s) := by
  have hd := waitDone_of_shcnt_lt hb hn
  obtain ⟨hcsn, -⟩ := hb
  have hc : s.csn = false := by simp [hcsn, hd, stepIndex]
  have hscan : busScan s.spiLog = some (some s.shcnt.val) := by
    simpa [FrameInv, hc, bitsSent, hd, stepIndex] using hi
  simp [FrameInv, shiftBit, busScan_append, hscan, scanEvent_bit hn, hc, bitsSent, hd, stepIndex, shcnt_succ hn]

/-- The bit that went out is bit `7 - SHCNT`, and with loopback on `RXSH` receives it (41_spi_driver R117). -/
theorem shiftBit_keeps_transferInv (hi : TransferInv s) (hb : BusInv s) (hn : s.shcnt.val < 8) :
    TransferInv (shiftBit s) := by
  have hd := waitDone_of_shcnt_lt hb hn
  obtain ⟨-, hloop, -⟩ := hb
  have hl : s.loop = true := by simp [hloop, hd, stepIndex]
  obtain ⟨hcb, htx, hrx⟩ := hi
  refine ⟨hcb, htx, fun h5 j hj => ?_⟩
  change 8 - (s.shcnt + 1).val ≤ j.val at hj
  rw [shcnt_succ hn] at hj
  change byteBit (shadowAfter _ _ s) j = byteBit s.txReg j
  rw [byteBit_shadowAfter]
  split
  · rename_i hj'
    rw [hj'.2]
  · rename_i hj'
    have hne : j.val ≠ 7 - s.shcnt.val := fun h => hj' ⟨hl, Fin.ext h⟩
    exact hrx h5 j (by omega)

theorem shiftBit_keeps_runInv (hi : RunInv s) (hn : s.shcnt.val < 8) : RunInv (shiftBit s) where
  parser := hi.parser
  sequencer := hi.sequencer
  bus := shiftBit_keeps_busInv hi.bus hn
  frame := shiftBit_keeps_frameInv hi.frame hi.bus hn
  transfer := shiftBit_keeps_transferInv hi.transfer hi.bus hn

/-- ISR raises RXP, which R36 (vi) allows in IDLE alone. -/
theorem takeInterrupt_keeps_runInv (b : Byte) (hi : RunInv s) (hp : s.seq.phase = .idle) :
    RunInv (takeInterrupt b s) :=
  { hi with sequencer := ⟨fun _ => hp, hi.sequencer.2⟩ }

theorem raise_keeps_runInv (r : FaultReason) (hi : RunInv s) : RunInv (raise r s) := { hi with }

theorem move_keeps_runInv (h : Move s t) (hi : RunInv s) : RunInv t := by
  cases h
  case waits => exact hi
  case interrupt b hq _ => exact takeInterrupt_keeps_runInv b hi (quiescent_iff.1 hq).1
  case overrun => exact raise_keeps_runInv _ hi
  case main _ hm => exact mainMove_keeps_runInv hm hi
  case engine _ he =>
    obtain ⟨-, -, hn⟩ := engineEnabled_iff.1 he
    exact shiftBit_keeps_runInv hi hn

/-- Every other move of MAIN is in a phase of its own. -/
theorem mainMove_of_halted (h : MainMove s t) (hp : s.seq.phase = .halted) : t = s := by
  cases h
  case waits => rfl
  all_goals simp_all only [reduceCtorEq]

/-- A halted block has no move but a reset (60_exceptions R178). -/
theorem move_of_halted (h : Move s t) (hp : s.seq.phase = .halted) : t = s := by
  cases h
  case waits => rfl
  case interrupt hq _ => simp [quiescent_iff, hp] at hq
  case overrun hn _ => exact absurd hp hn
  case main _ hm => exact mainMove_of_halted hm hp
  case engine _ he => simp [engineEnabled_iff, hp] at he

theorem mainMove_phase_ne_halted (h : MainMove s t) (hn : s.seq.phase ≠ .halted) : t.seq.phase ≠ .halted := by
  cases h
  case promptByte | promptEnd | wake | toIdle | toApply | toMessage | messageByte | messageEnd | csDeassert => nofun
  all_goals exact hn

theorem move_phase_ne_halted (h : Move s t) (hn : s.seq.phase ≠ .halted) : t.seq.phase ≠ .halted := by
  cases h
  case main _ hm => exact mainMove_phase_ne_halted hm hn
  case waits | interrupt | overrun | engine => exact hn

theorem move_keeps_inv (h : Move s t) (hi : Inv s) : Inv t := by
  by_cases hp : s.seq.phase = .halted
  · rw [move_of_halted h hp]
    exact hi
  · exact (move_keeps_runInv h (hi.runInv hp)).inv (move_phase_ne_halted h hp)

theorem Inv.setEnv (hi : Inv s) (e : Env) : Inv (s.setEnv e) :=
  ⟨hi.halted, hi.parser, hi.sequencer, hi.bus, hi.frame, hi.transfer⟩

theorem inv_reset : Inv State.reset :=
  RunInv.inv (by constructor <;> decide) nofun

theorem inv_haltedState (e : Env) : Inv (haltedState e) where
  halted _ := ⟨rfl, rfl, rfl⟩
  parser hn := absurd rfl hn
  sequencer hn := absurd rfl hn
  bus hn := absurd rfl hn
  frame hn := absurd rfl hn
  transfer hn := absurd rfl hn

theorem step_keeps_inv (hi : Inv s) (h : step s = .next t) : Inv t := by
  by_cases hr : ∃ ok, s.env.turns.head? = some (.reset ok)
  · obtain ⟨ok, hr⟩ := hr
    obtain ⟨e, rfl⟩ := step_next_reset h hr
    cases ok
    · exact (inv_haltedState s.env).setEnv e
    · exact inv_reset.setEnv e
  · obtain ⟨u, e, hm, rfl⟩ := step_next h (not_exists.1 hr)
    exact (move_keeps_inv hm hi).setEnv e

end Sys2Proof.Machine
end

section
/-! The statements of the family 10_state. -/

namespace Sys2Proof.Machine

/-- Settles O44: a reset ends in a state of the invariant, and every other step is a move, each of which keeps it. -/
theorem stepKeepsInvariant : Obligations.StepKeepsInvariant :=
  fun _ _ => step_keeps_inv

/-- Settles O45: the reset state is not halted and has every part of `RunInv`. -/
theorem resetMeetsInvariant : Obligations.ResetMeetsInvariant := inv_reset

/-- Settles O48: a move appends to a log or leaves it. -/
theorem logsOnlyGrow : Obligations.LogsOnlyGrow := by
  intro s t h hr
  obtain ⟨u, e, hm, rfl⟩ := step_next h hr
  exact move_logs_grow (t := u) hm

/-- Settles O49: a move adds to FAULT at most, and `unlessFaulted` guards the three turns of the block. -/
theorem faultsAreSticky : Obligations.FaultsAreSticky := by
  constructor
  · intro s t h hr
    obtain ⟨u, e, hm, rfl⟩ := step_next h hr
    exact move_fault_subset (t := u) hm
  · intro s hf ht
    rw [step, machineStep, turnStep_of_fault hf ht]
    rfl

/-- Settles O50: of all moves only two of MAIN's write CSN. -/
theorem chipSelectHasTwoWriters : Obligations.ChipSelectHasTwoWriters := by
  intro s t h hr
  obtain ⟨u, e, hm, rfl⟩ := step_next h hr
  exact move_csn_changes (t := u) hm

end Sys2Proof.Machine
end

section
/-! The four spaces and their writers (20_memory): a read past a space's end, what the table holds, and which moves
write the cell, RXP, PS and CB. -/

namespace Sys2Proof.Machine

/-- An index past the end of a space has no cell (R58). -/
theorem romRead_of_length_le {cells : List Byte} {i : Nat} (h : cells.length ≤ i) :
    romRead cells i = .error .contractViolation := by
  rw [romRead, List.getElem?_eq_none h]

/-- No two settings have the same Control Byte (R41). -/
theorem table_nodup : Config.table.Nodup := by decide

theorem memRead_cell_congr {s t : State} (h : t.lrb = s.lrb) (a : Nat) : memRead .cell a t = memRead .cell a s := by
  rw [memRead, memRead, h]

variable {s t : State}

/-- MAIN reads the cell and consumes the wake signal; it writes neither (R43, 10_state R19). -/
theorem mainMove_keeps_cell (h : MainMove s t) : t.lrb = s.lrb ∧ (t.rxp = true → s.rxp = true) := by
  cases h
  case wake => exact ⟨rfl, nofun⟩
  all_goals exact ⟨rfl, id⟩

/-- ISR's interrupt is the one move that writes the cell or raises RXP. -/
theorem move_writes_cell (h : Move s t) (hc : t.lrb ≠ s.lrb ∨ s.rxp = false ∧ t.rxp = true) :
    quiescent s = true ∧ ∃ b, (s.env.turns.head? = some (.rxByte b) ∨ s.env.turns.head? = some (.rxWhenReady b)) ∧
      t = takeInterrupt b s := by
  cases h
  case interrupt b hq hh => exact ⟨hq, b, hh, rfl⟩
  case main _ hm =>
    obtain ⟨hl, hr⟩ := mainMove_keeps_cell hm
    rcases hc with hc | ⟨hs, ht⟩
    · exact absurd hl hc
    · exact absurd (hs.symm.trans (hr ht)) Bool.false_ne_true
  case waits | overrun | engine =>
    rcases hc with hc | ⟨hs, ht⟩
    · exact absurd rfl hc
    · exact absurd (hs.symm.trans ht) Bool.false_ne_true

/-- Of MAIN's moves the wake and the end of a prompt write the parser (10_state R35). -/
theorem mainMove_writes_parser (h : MainMove s t) (hc : t.ps ≠ s.ps ∨ t.cb ≠ s.cb) :
    s.seq.phase = .idle ∧ s.rxp = true ∨ s.seq.phase = .prompt ∧ s.seq.idx = 21 := by
  cases h
  case wake hp hr _ _ _ _ _ => exact .inl ⟨hp, hr⟩
  case promptEnd hp hi => exact .inr ⟨hp, hi⟩
  all_goals exact hc.elim (absurd rfl) (absurd rfl)

theorem move_writes_parser (h : Move s t) (hc : t.ps ≠ s.ps ∨ t.cb ≠ s.cb) :
    s.seq.phase = .idle ∧ s.rxp = true ∨ s.seq.phase = .prompt ∧ s.seq.idx = 21 := by
  cases h
  case main _ hm => exact mainMove_writes_parser hm hc
  case waits | interrupt | overrun | engine => exact hc.elim (absurd rfl) (absurd rfl)

end Sys2Proof.Machine
end

section
/-! The statements of the family 20_memory. -/

namespace Sys2Proof.Machine

/-- Settles O51: a step that is no reset is a move; ISR's interrupt alone writes the cell and RXP, and it stores the
byte; MAIN's wake and prompt end alone write the parser. -/
theorem sharedCellOwnership : Obligations.SharedCellOwnership := by
  intro s t h hr
  obtain ⟨u, e, hm, rfl⟩ := step_next h hr
  refine ⟨fun hc => ?_, move_writes_parser (t := u) hm⟩
  have hw : u.lrb ≠ s.lrb ∨ s.rxp = false ∧ u.rxp = true :=
    hc.imp_left fun ⟨a, ha⟩ hl => ha (memRead_cell_congr hl a)
  obtain ⟨hq, b, hh, rfl⟩ := move_writes_cell hm hw
  exact ⟨hq, b, hh, rfl, rfl, rfl⟩

/-- Settles O14: every index reads its entry, and no entry stands twice in the table. -/
theorem tableIsTotalAndInjective : Obligations.TableIsTotalAndInjective := by
  refine ⟨by decide, fun i j h => Fin.ext ?_⟩
  obtain ⟨b, hi, hb⟩ := tableRead_ok (n := i) (by omega)
  have hj : Config.table[j.val]? = some b := tableRead_eq_ok (h ▸ hb)
  exact (List.getElem?_inj i.isLt table_nodup).1 (hi.trans hj.symm)

/-- Settles O15: the table has 11 cells, each string 21, and CELL one. -/
theorem readsOutsideASpaceFault : Obligations.ReadsOutsideASpaceFault :=
  ⟨fun _ h => romRead_of_length_le h, fun _ h => romRead_of_length_le h, fun _ h => romRead_of_length_le h,
    fun _ _ h => romRead_of_length_le h⟩

/-- Settles O16: 42 closed reads. -/
theorem stringsByteByByte : Obligations.StringsByteByByte :=
  ⟨by decide, by decide⟩

end Sys2Proof.Machine
end

section
/-! SUPPORT. The decoder and the encoder byte by byte (30_encoding): `decodeByte` gives the one well-formed class of its
format that has the byte. -/

namespace Sys2Proof.Machine

/-- Every row of the table compares the whole byte with that of its class, a well-formed one (R64, R65, R74). -/
theorem opcodeRows_own_byte :
    ∀ r ∈ opcodeRows, wellFormed r.instr = true ∧ r.mask = BitVec.allOnes 8 ∧ encode r.instr = r.pattern := by
  decide

theorem encode_eq_of_rowSelects {f : Format} {b : Byte} {r : OpcodeRow} (hr : r ∈ opcodeRows)
    (hs : rowSelects f b r = true) : encode r.instr = b := by
  obtain ⟨-, hmask, hbyte⟩ := opcodeRows_own_byte r hr
  obtain ⟨-, hpat⟩ : r.format = f ∧ b &&& r.mask = r.pattern := by simpa [rowSelects] using hs
  rw [hbyte, ← hpat, hmask, BitVec.and_allOnes]

/-- A byte that no row of the format selects is one the default class can carry. -/
theorem wellFormed_defaultInstr :
    ∀ (f : Format) (b : Byte), opcodeRows.find? (rowSelects f b) = none → wellFormed (defaultInstr f b) = true := by
  intro f
  cases f <;> decide

/-- The decoder takes the class of a row that selects the byte, or the default class where none does (R74). -/
theorem decodeByte_row_or_default (f : Format) (b : Byte) :
    (∃ r ∈ opcodeRows, rowSelects f b r = true ∧ decodeByte f b = r.instr) ∨
      opcodeRows.find? (rowSelects f b) = none ∧ decodeByte f b = defaultInstr f b := by
  unfold decodeByte
  split
  next r h => exact .inl ⟨r, List.mem_of_find?_eq_some h, List.find?_some h, rfl⟩
  next h => exact .inr ⟨h, rfl⟩

@[simp] theorem encode_defaultInstr (f : Format) (b : Byte) : encode (defaultInstr f b) = b := by
  cases f <;> rfl

@[simp] theorem encode_decodeByte (f : Format) (b : Byte) : encode (decodeByte f b) = b := by
  obtain ⟨r, hr, hs, hd⟩ | ⟨-, hd⟩ := decodeByte_row_or_default f b
  · rw [hd, encode_eq_of_rowSelects hr hs]
  · rw [hd, encode_defaultInstr]

@[simp] theorem wellFormed_decodeByte (f : Format) (b : Byte) : wellFormed (decodeByte f b) = true := by
  obtain ⟨r, hr, -, hd⟩ | ⟨hn, hd⟩ := decodeByte_row_or_default f b
  · rw [hd, (opcodeRows_own_byte r hr).1]
  · rw [hd, wellFormed_defaultInstr f b hn]

theorem ownByte (i : Instr) : Laws.OwnByte.Statement i :=
  match i with
  | .set0 => Laws.OwnByte.set0
  | .pfx1 => Laws.OwnByte.pfx1
  | .set2 => Laws.OwnByte.set2
  | .set3 => Laws.OwnByte.set3
  | .set4 => Laws.OwnByte.set4
  | .set5 => Laws.OwnByte.set5
  | .set6 => Laws.OwnByte.set6
  | .set7 => Laws.OwnByte.set7
  | .set8 => Laws.OwnByte.set8
  | .set9 => Laws.OwnByte.set9
  | .inv1 b => Laws.OwnByte.inv1 b
  | .set10 => Laws.OwnByte.set10
  | .set1 => Laws.OwnByte.set1
  | .inv2 b => Laws.OwnByte.inv2 b

theorem decodeByte_encode {i : Instr} (h : wellFormed i = true) : decodeByte (instrFormat i) (encode i) = i := by
  have hd : (.ok (decodeByte (instrFormat i) (encode i), []) : Except DecodeError _) = .ok (i, []) := ownByte i h []
  injection hd with hp
  exact congrArg Prod.fst hp

theorem isCommandStream_cons {f : Format} {i : Instr} {is : List Instr} :
    isCommandStream f (i :: is) = true ↔
      instrFormat i = f ∧ wellFormed i = true ∧ isCommandStream (formatAfter i) is = true := by
  simp [isCommandStream, and_assoc]

theorem encodeStream_cons (i : Instr) (is : List Instr) : encodeStream (i :: is) = encode i :: encodeStream is := rfl

theorem decodeStream_cons (f : Format) (b : Byte) (bs : List Byte) :
    decodeStream f (b :: bs) = decodeByte f b :: decodeStream (formatAfter (decodeByte f b)) bs := rfl

theorem decodeStream_encodeStream {f : Format} {is : List Instr} (h : isCommandStream f is = true) :
    decodeStream f (encodeStream is) = is := by
  induction is generalizing f with
  | nil => rfl
  | cons i is ih =>
    obtain ⟨rfl, hw, hs⟩ := isCommandStream_cons.1 h
    rw [encodeStream_cons, decodeStream_cons, decodeByte_encode hw, ih hs]

theorem isCommandStream_decodeStream (f : Format) (bs : List Byte) : isCommandStream f (decodeStream f bs) = true := by
  induction bs generalizing f with
  | nil => rfl
  | cons b bs ih =>
    exact isCommandStream_cons.2 ⟨instrFormat_decodeByte f b, wellFormed_decodeByte f b, ih _⟩

theorem encodeStream_decodeStream (f : Format) (bs : List Byte) : encodeStream (decodeStream f bs) = bs := by
  induction bs generalizing f with
  | nil => rfl
  | cons b bs ih => rw [decodeStream_cons, encodeStream_cons, encode_decodeByte, ih]

end Sys2Proof.Machine
end

section
/-! The statements of the family 30_encoding. -/

namespace Sys2Proof.Machine

/-- Settles O12: by induction on the list, each class's byte is read as itself in the format the class before it
leaves. -/
theorem decodeOfEncodedStream : Obligations.DecodeOfEncodedStream :=
  fun _ _ => decodeStream_encodeStream

/-- Settles O13: by induction on the bytes, each read as a well-formed class of the format asked for whose byte it
is. -/
theorem encodeOfDecodedStream : Obligations.EncodeOfDecodedStream :=
  fun f bs => ⟨isCommandStream_decodeStream f bs, encodeStream_decodeStream f bs⟩

/-- Settles O11: eight closed bytes. -/
theorem writtenOutBytesDecode : Obligations.WrittenOutBytesDecode := by
  unfold Obligations.WrittenOutBytesDecode
  decide

end Sys2Proof.Machine
end

section
/-! SUPPORT. The byte classes (40_parser): a class of a format is `firstByte` or `secondByte` over its own byte, so in
the stage of its format it completes with PS and CB as `psAfter` and `cbAfter` give them, and in every other it is
refused. -/

namespace Sys2Proof.Machine

/-- PS after a byte class that completes (R81 to R94). -/
def psAfter (i : Instr) (p : ParserState) : ParserState :=
  match i with
  | .set0 => ⟨.resolved, 0⟩
  | .pfx1 => ⟨.await2, 1⟩
  | .set2 => ⟨.resolved, 2⟩
  | .set3 => ⟨.resolved, 3⟩
  | .set4 => ⟨.resolved, 4⟩
  | .set5 => ⟨.resolved, 5⟩
  | .set6 => ⟨.resolved, 6⟩
  | .set7 => ⟨.resolved, 7⟩
  | .set8 => ⟨.resolved, 8⟩
  | .set9 => ⟨.resolved, 9⟩
  | .set10 => ⟨.resolved, 10⟩
  | .set1 => ⟨.resolved, 1⟩
  | .inv1 _ => ⟨.invalid, p.value⟩
  | .inv2 _ => ⟨.invalid, p.value⟩

/-- CB after a byte class that completes: its byte at the position of its format, and the count (R96). -/
def cbAfter (i : Instr) (c : CommandBuffer) : CommandBuffer :=
  match instrFormat i with
  | .f1 => ⟨1, encode i, c.b1⟩
  | .f2 => ⟨2, c.b0, encode i⟩

/-- The state after a byte class that completes. -/
def afterClass (i : Instr) (s : State) : State := { s with ps := psAfter i s.ps, cb := cbAfter i s.cb }

section
variable {b : Byte} {act : State → State} {s : State}

theorem firstByte_of_await2 (h : s.ps.stage = .await2) : firstByte b act s = .refused .wrongFormat := by
  rw [firstByte, h]

theorem secondByte_of_await1 (h : s.ps.stage = .await1) : secondByte b act s = .refused .wrongFormat := by
  rw [secondByte, h]

theorem firstByte_of_terminal (h : s.ps.stage = .resolved ∨ s.ps.stage = .invalid) :
    firstByte b act s = .refused .parserTerminal := by
  rcases h with h | h <;> rw [firstByte, h]

theorem secondByte_of_terminal (h : s.ps.stage = .resolved ∨ s.ps.stage = .invalid) :
    secondByte b act s = .refused .parserTerminal := by
  rcases h with h | h <;> rw [secondByte, h]

end

variable {i : Instr} {s t : State}

theorem exec_of_f1 (hf : instrFormat i = .f1) (s : State) :
    exec i s = firstByte (encode i) (fun u => u.setPs (psAfter i u.ps)) s := by
  cases i
  case set10 | set1 | inv2 => cases hf
  all_goals rfl

theorem exec_of_f2 (hf : instrFormat i = .f2) (s : State) :
    exec i s = secondByte (encode i) (fun u => u.setPs (psAfter i u.ps)) s := by
  cases i
  case set10 | set1 | inv2 => rfl
  all_goals cases hf

/-- A byte class completes in the stage of its format alone, and this is all it does. -/
theorem exec_eq_next : exec i s = .next t ↔ s.ps.stage = formatStage (instrFormat i) ∧ afterClass i s = t := by
  cases hf : instrFormat i
  case f1 =>
    rw [exec_of_f1 hf, firstByte_eq_next, afterClass, cbAfter, hf]
    rfl
  case f2 =>
    rw [exec_of_f2 hf, secondByte_eq_next, afterClass, cbAfter, hf]
    rfl

theorem exec_of_stage (h : s.ps.stage = formatStage (instrFormat i)) : exec i s = .next (afterClass i s) :=
  exec_eq_next.2 ⟨h, rfl⟩

theorem exec_of_terminal (i : Instr) (h : s.ps.stage = .resolved ∨ s.ps.stage = .invalid) :
    exec i s = .refused .parserTerminal := by
  cases hf : instrFormat i
  case f1 => rw [exec_of_f1 hf, firstByte_of_terminal h]
  case f2 => rw [exec_of_f2 hf, secondByte_of_terminal h]

/-- The two classes that take the exception `Invalid` keep the value. -/
theorem psAfter_value_of_invalid (i : Instr) (p : ParserState) (h : (psAfter i p).stage = .invalid) :
    (psAfter i p).value = p.value := by
  cases i
  case inv1 | inv2 => rfl
  all_goals cases h

theorem cbAfter_of_f1 (hf : instrFormat i = .f1) (c : CommandBuffer) : cbAfter i c = ⟨1, encode i, c.b1⟩ := by
  rw [cbAfter, hf]

theorem cbAfter_of_f2 (hf : instrFormat i = .f2) (c : CommandBuffer) : cbAfter i c = ⟨2, c.b0, encode i⟩ := by
  rw [cbAfter, hf]

theorem wellFormed_inv1_iff {b : Byte} : wellFormed (.inv1 b) = true ↔ isDigit b = false := by
  rw [wellFormed, Bool.not_eq_true']

theorem wellFormed_inv2_iff {b : Byte} : wellFormed (.inv2 b) = true ↔ b ≠ 0x30 ∧ b ≠ 0x0D := by
  rw [wellFormed, Bool.and_eq_true, bne_iff_ne, bne_iff_ne, Config.cr]

/-- The table of R64 by the byte's value. -/
theorem psAfter_of_f1 (hf : instrFormat i = .f1) (hw : wellFormed i = true) (p : ParserState) :
    psAfter i p = if encode i = 0x31 then ⟨.await2, 1⟩
      else if isDigit (encode i) then ⟨.resolved, (encode i - 0x30#8).setWidth 4⟩ else ⟨.invalid, p.value⟩ := by
  cases i
  case set10 | set1 | inv2 => cases hf
  case inv1 b =>
    have hd : isDigit b = false := wellFormed_inv1_iff.1 hw
    have h1 : b ≠ 0x31 := by
      rintro rfl
      cases hd
    rw [encode, if_neg h1, hd]
    rfl
  all_goals rfl

/-- The table of R65 by the byte's value. -/
theorem psAfter_of_f2 (hf : instrFormat i = .f2) (hw : wellFormed i = true) (p : ParserState) :
    psAfter i p = if encode i = 0x30 then ⟨.resolved, 10⟩
      else if encode i = 0x0D then ⟨.resolved, 1⟩ else ⟨.invalid, p.value⟩ := by
  cases i
  case set10 | set1 => rfl
  case inv2 b =>
    obtain ⟨h0, hcr⟩ := wellFormed_inv2_iff.1 hw
    rw [encode, if_neg h0, if_neg hcr]
    rfl
  all_goals cases hf

end Sys2Proof.Machine
end

section
/-! The range of a resolved setting under every move (40_parser R97). -/

namespace Sys2Proof.Machine

variable {s t : State}

/-- A resolved setting is at most 10. -/
def SettingInRange (s : State) : Prop := s.ps.stage = .resolved → s.ps.value.toNat ≤ 10

/-- Of MAIN's moves the wake alone resolves a setting, and the end of a prompt gives the value up. -/
theorem mainMove_keeps_settingInRange (h : MainMove s t) (hi : SettingInRange s) : SettingInRange t := by
  cases h
  case wake hv _ => exact hv
  case promptEnd => exact nofun
  all_goals exact hi

theorem move_keeps_settingInRange (h : Move s t) (hi : SettingInRange s) : SettingInRange t := by
  cases h
  case main _ hm => exact mainMove_keeps_settingInRange hm hi
  case waits | interrupt | overrun | engine => exact hi

end Sys2Proof.Machine
end

section
/-! The statements of the family 40_parser. -/

namespace Sys2Proof.Machine

/-- Settles O9: the decoder gives a well-formed class of the stage's format, which completes, and what that class leaves
in PS is read off its byte. -/
theorem parserStepByStageAndByte : Obligations.ParserStepByStageAndByte := by
  intro b s
  constructor <;> intro h
  · have hf : instrFormat (decodeByte .f1 b) = .f1 := instrFormat_decodeByte .f1 b
    rw [exec_of_stage (by rw [hf]; exact h), afterClass, cbAfter_of_f1 hf,
      psAfter_of_f1 hf (wellFormed_decodeByte .f1 b), encode_decodeByte]
  · have hf : instrFormat (decodeByte .f2 b) = .f2 := instrFormat_decodeByte .f2 b
    rw [exec_of_stage (by rw [hf]; exact h), afterClass, cbAfter_of_f2 hf,
      psAfter_of_f2 hf (wellFormed_decodeByte .f2 b), encode_decodeByte]

/-- Settles O10: a class that completes ends in `afterClass`, which keeps the cell `LRB`. -/
theorem byteClassFrame : Obligations.ByteClassFrame := by
  intro i s t h
  obtain ⟨-, rfl⟩ := exec_eq_next.1 h
  have hb1 (hf : instrFormat i = .f1) : (cbAfter i s.cb).b1 = s.cb.b1 := by rw [cbAfter_of_f1 hf]
  have hb0 (hf : instrFormat i = .f2) : (cbAfter i s.cb).b0 = s.cb.b0 := by rw [cbAfter_of_f2 hf]
  exact ⟨rfl, hb1, hb0, psAfter_value_of_invalid i s.ps, fun _ _ => rfl⟩

/-- Settles O47: a reset that does not fail ends in AWAIT1, and every other step is a move, each of which keeps the
range. -/
theorem resolvedSettingInRange : Obligations.ResolvedSettingInRange := by
  intro s t hi hn h
  by_cases hr : ∃ ok, s.env.turns.head? = some (.reset ok)
  · obtain ⟨ok, hr⟩ := hr
    obtain ⟨e, rfl⟩ := step_next_reset h hr
    cases ok
    case false => exact absurd hr hn
    case true => exact nofun
  · obtain ⟨u, e, hm, rfl⟩ := step_next h (not_exists.1 hr)
    exact move_keeps_settingInRange (t := u) hm hi

/-- Settles O1: the byte and the table are closed facts, and `SET0` completes as every class of F1 does in AWAIT1. -/
theorem set0ResolvesZero : Obligations.Set0ResolvesZero :=
  ⟨rfl, rfl, fun _ => exec_of_stage (i := .set0)⟩

/-- Settles O2: `PFX1` completes in AWAIT1, and `psAfter` has it wait for a second byte. -/
theorem pfx1AwaitsSecondByte : Obligations.Pfx1AwaitsSecondByte :=
  ⟨rfl, fun _ => exec_of_stage (i := .pfx1)⟩

/-- Settles O3: one case for each of the eight rows. -/
theorem digitsTwoToNineResolve : Obligations.DigitsTwoToNineResolve := by
  unfold Obligations.DigitsTwoToNineResolve
  simp only [List.forall_mem_cons]
  refine ⟨?_, ?_, ?_, ?_, ?_, ?_, ?_, ?_, nofun⟩
  all_goals exact ⟨rfl, rfl, fun _ h => exec_of_stage h⟩

/-- Settles O4: `INV1` on a byte that is no digit is well formed, so its byte decodes to it. -/
theorem firstByteOutsideDigitsIsInvalid : Obligations.FirstByteOutsideDigitsIsInvalid :=
  fun b hb => ⟨decodeByte_encode (wellFormed_inv1_iff.2 hb), fun _ => exec_of_stage (i := .inv1 b)⟩

/-- Settles O5: `SET10` completes as every class of F2 does in AWAIT2. -/
theorem secondZeroResolvesTen : Obligations.SecondZeroResolvesTen :=
  ⟨rfl, rfl, fun _ => exec_of_stage (i := .set10)⟩

/-- Settles O6: `SET1` completes in AWAIT2; the line feed, closed, is read as `INV2`. -/
theorem carriageReturnResolvesOne : Obligations.CarriageReturnResolvesOne :=
  ⟨rfl, rfl, rfl, fun _ => exec_of_stage (i := .set1)⟩

/-- Settles O7: `INV2` on a byte that is neither `'0'` nor the carriage return is well formed, so its byte decodes to
it. -/
theorem otherSecondByteIsInvalid : Obligations.OtherSecondByteIsInvalid :=
  fun b h0 hcr => ⟨decodeByte_encode (wellFormed_inv2_iff.2 ⟨h0, hcr⟩), fun _ => exec_of_stage (i := .inv2 b)⟩

/-- Settles O8: by the stage, then by the format of the class. -/
theorem terminalStagesTakeNoByte : Obligations.TerminalStagesTakeNoByte := by
  intro i s
  refine ⟨exec_of_terminal i, fun h hf => ?_, fun h hf => ?_⟩
  · rw [exec_of_f2 hf, secondByte_of_await1 h]
  · rw [exec_of_f1 hf, firstByte_of_await2 h]

end Sys2Proof.Machine
end

section
/-! SUPPORT. The shared rules of the family 41_spi_driver: the moves the block makes by itself, also under a byte that
waits for quiescence, and how the model's own fields age over them. -/

namespace Sys2Proof.Machine

/-- The model's own fields after `n` steps that take no turn of the schedule. -/
def aged (n : Nat) (e : Env) : Env := ⟨e.turns, e.txWait - n, e.freeTick + n⟩

theorem aged_aged (m n : Nat) (e : Env) : aged n (aged m e) = aged (m + n) e := by
  simp [aged, Nat.sub_sub, Nat.add_assoc]

/-- ENV does nothing before the block is quiescent. -/
def Patient (ts : List Turn) : Prop := ts = [] ∨ ∃ b rest, ts = .rxWhenReady b :: rest

/-- The block moves by itself: FAULT is empty and no turn of the schedule is due. -/
def BlockMoves (s : State) : Prop :=
  s.fault = FaultSet.empty ∧ Patient s.env.turns ∧ (s.env.turns = [] ∨ quiescent s = false)

variable {s t : State}

theorem blockMoves_of_no_turns (hf : s.fault = FaultSet.empty) (ht : s.env.turns = []) : BlockMoves s :=
  ⟨hf, .inl ht, .inl ht⟩

theorem blockMoves_of_busy (hf : s.fault = FaultSet.empty) (ht : Patient s.env.turns) (hq : quiescent s = false) :
    BlockMoves s := ⟨hf, ht, .inr hq⟩

theorem quiescent_of_phase (hp : s.seq.phase ≠ .idle) : quiescent s = false := by simp [quiescent, hp]

theorem step_eq_blockStep (hm : BlockMoves s) : step s = mapNext tick (blockStep s) := by
  obtain ⟨-, ht | ⟨b, rest, ht⟩, hq⟩ := hm
  · simp [step, machineStep, turnStep, ht]
  · have hq : quiescent s = false := hq.resolve_left (by simp [ht])
    simp [step, machineStep, turnStep, ht, hq]

theorem step_main (hm : BlockMoves s) (he : engineEnabled s = false) (h : mainStep s = .next t) :
    step s = .next (tick t) := by
  rw [step_eq_blockStep hm, blockStep, he, h, unlessFaulted, if_pos hm.1]
  rfl

theorem step_engine (hm : BlockMoves s) (he : engineEnabled s = true) : step s = .next (tick (shiftBit s)) := by
  rw [step_eq_blockStep hm, blockStep, he, engineStep, he, unlessFaulted, if_pos hm.1]
  rfl

/-- MAIN in phase APPLY runs the micro-step that `DRV.step` selects. -/
theorem step_driver (hm : BlockMoves s) (he : engineEnabled s = false) (hp : s.seq.phase = .apply)
    (h : driverStep s = .next t) : step s = .next (tick t) :=
  step_main hm he (by rw [mainStep, hp]; exact h)

theorem engineEnabled_of_rest (h : s.shcnt = 8) : engineEnabled s = false := by
  simp [engineEnabled, inTransfer_eq_false h]

theorem runSteps_cons {u : State} {n : Nat} (h : step s = .next t) (hr : runSteps n t = .next u) :
    runSteps (n + 1) s = .next u := (runSteps_succ h n).trans hr

theorem runSteps_append {u : State} {m n : Nat} (h : runSteps m s = .next t) (hr : runSteps n t = .next u) :
    runSteps (m + n) s = .next u := (runSteps_add n h).trans hr

/-! The writes of the bus peripheral that are misuse (41_spi_driver R131), and the micro-steps that ask for one or for a
read outside the table. -/

theorem inTransfer_of_lt (h : s.shcnt.val < 8) : inTransfer s = true := decide_eq_true h

theorem writeTxReg_misuse (b : Byte) (h : s.eng = false ∨ s.shcnt.val < 8) :
    writeTxReg b s = .error .engineMisuse := by
  rcases h with h | h
  · simp [writeTxReg, h]
  · simp [writeTxReg, inTransfer_of_lt h]

theorem writeEng_misuse (h : s.shcnt.val < 8) : writeEng false s = .error .engineMisuse := by
  simp [writeEng, inTransfer_of_lt h]

theorem writeLoop_misuse (h : s.shcnt.val < 8) : writeLoop false s = .error .engineMisuse := by
  simp [writeLoop, inTransfer_of_lt h]

theorem driverStep_lookup_fails (hd : s.drv.step = .lookup) (hv : 10 < s.ps.value.toNat) :
    driverStep s = .next (raise .contractViolation s) := by
  rw [driverStep, hd, drvLookup, tableRead, romRead_of_length_le hv]
  rfl

theorem driverStep_txWrite_misuse (hd : s.drv.step = .txWrite) (h : s.eng = false ∨ s.shcnt.val < 8) :
    driverStep s = .next (raise .engineMisuse s) := by
  rw [driverStep, hd, drvTxWrite, writeTxReg_misuse _ h]
  rfl

theorem driverStep_engStop_misuse (hd : s.drv.step = .engStop) (h : s.shcnt.val < 8) :
    driverStep s = .next (raise .engineMisuse s) := by
  rw [driverStep, hd, drvEngStop, writeEng_misuse h]
  rfl

theorem driverStep_loopOff_misuse (hd : s.drv.step = .loopOff) (h : s.shcnt.val < 8) :
    driverStep s = .next (raise .engineMisuse s) := by
  rw [driverStep, hd, drvLoopOff, writeLoop_misuse h]
  rfl

end Sys2Proof.Machine
end

section
/-! A transfer bit by bit (41_spi_driver R117, R118). -/

namespace Sys2Proof.Machine

variable {s t : State}

theorem shcnt_succ_eq_eight : ∀ n : Fin 9, n + 1 = 8 ↔ n.val = 7 := by decide

theorem byte_ext {v w : Byte} (h : ∀ k : Fin 8, byteBit v k = byteBit w k) : v = w :=
  BitVec.eq_of_getLsbD_eq fun i hi => h ⟨i, hi⟩

/-- The bus events of the first `n` bits of a transfer of `x`, most significant first (20_memory R44). -/
def bitEvents (n : Nat) (x : Byte) : List BusEvent :=
  (List.range n).map fun i => .bit (bitIndex i) (byteBit x (bitIndex i))

theorem bitEvents_succ (n : Nat) (x : Byte) :
    bitEvents (n + 1) x = bitEvents n x ++ [.bit (bitIndex n) (byteBit x (bitIndex n))] := by
  simp [bitEvents, List.range_succ]

theorem spiWrite_eq (cb : Byte) : spiWrite cb = [.csLow] ++ bitEvents 8 cb ++ [.csHigh] := rfl

/-- What the first `n` bits of a transfer with the loopback on make of `s`. -/
structure Sent (n : Nat) (s t : State) : Prop where
  shcnt : t.shcnt.val = n
  done : t.done = (s.done || decide (n = 8))
  log : t.spiLog = s.spiLog ++ bitEvents n s.txReg
  shadow : ∀ k : Fin 8, 8 - n ≤ k.val → byteBit t.rxsh k = byteBit s.txReg k
  mosi : 0 < n → t.mosi = byteBit s.txReg (bitIndex (n - 1))
  sclk : 0 < n → t.sclk = Config.spiCpol
  frame : t = { s with mosi := t.mosi, sclk := t.sclk, spiLog := t.spiLog, rxsh := t.rxsh, shcnt := t.shcnt,
                       done := t.done, env := aged n s.env }

theorem sent_zero (h0 : s.shcnt = 0) : Sent 0 s s where
  shcnt := by simp [h0]
  done := by simp
  log := by simp [bitEvents]
  shadow k hk := by omega
  mosi h := absurd h (by simp)
  sclk h := absurd h (by simp)
  frame := rfl

theorem sent_succ {n : Nat} (h : Sent n s t) (hn : n < 8) (hl : s.loop = true) :
    Sent (n + 1) s (tick (shiftBit t)) where
  shcnt := by
    have hc : (t.shcnt + 1).val = t.shcnt.val + 1 := shcnt_succ (by rw [h.shcnt]; exact hn)
    exact hc.trans (by rw [h.shcnt])
  done := by
    show (t.done || decide (t.shcnt.val = 7)) = _
    have hd : ¬ n = 8 := by omega
    simp [h.done, h.shcnt, hd]
  log := by
    show t.spiLog ++ [.bit (bitIndex t.shcnt.val) (byteBit t.txReg (bitIndex t.shcnt.val))] = _
    rw [h.log, h.shcnt, congrArg State.txReg h.frame, bitEvents_succ, List.append_assoc]
  shadow k hk := by
    show byteBit (shadowAfter (bitIndex t.shcnt.val) (byteBit t.txReg (bitIndex t.shcnt.val)) t) k = _
    rw [byteBit_shadowAfter, h.shcnt, congrArg State.txReg h.frame]
    split
    next hk' => rw [hk'.2]
    next hk' =>
      have hne : k.val ≠ 7 - n := fun e => hk' ⟨(congrArg State.loop h.frame).trans hl, Fin.ext e⟩
      exact h.shadow k (by omega)
  mosi _ := by
    show byteBit t.txReg (bitIndex t.shcnt.val) = _
    rw [h.shcnt, congrArg State.txReg h.frame]
    rfl
  sclk _ := rfl
  frame := by
    rw [h.frame]
    rfl

/-- While a transfer lasts every move of the block is ENGINE's (R118). -/
theorem runSteps_bits (hm : BlockMoves s) (hp : s.seq.phase ≠ .halted) (he : s.eng = true) (hl : s.loop = true)
    (h0 : s.shcnt = 0) {n : Nat} (hn : n ≤ 8) : ∃ t, runSteps n s = .next t ∧ Sent n s t := by
  induction n with
  | zero => exact ⟨s, rfl, sent_zero h0⟩
  | succ n ih =>
    obtain ⟨t, hr, ht⟩ := ih (by omega)
    have hmt : BlockMoves t := by
      rw [ht.frame]
      exact hm
    have het : engineEnabled t = true := by
      refine engineEnabled_iff.2 ⟨?_, (congrArg State.eng ht.frame).trans he, by rw [ht.shcnt]; omega⟩
      rw [congrArg State.seq ht.frame]
      exact hp
    exact ⟨_, runSteps_append hr (runSteps_cons (step_engine hmt het) rfl), sent_succ ht (by omega) hl⟩

/-- After eight bits `RXSH` is `TXREG` (10_state R26). -/
theorem runSteps_transfer (hm : BlockMoves s) (hp : s.seq.phase ≠ .halted) (he : s.eng = true)
    (hl : s.loop = true) (h0 : s.shcnt = 0) :
    runSteps 8 s = .next { s with
      rxsh := s.txReg, done := true, shcnt := 8, spiLog := s.spiLog ++ bitEvents 8 s.txReg,
      mosi := byteBit s.txReg 0, sclk := Config.spiCpol, env := aged 8 s.env } := by
  obtain ⟨t, hr, ht⟩ := runSteps_bits hm hp he hl h0 le_rfl
  have hx : t.rxsh = s.txReg := byte_ext fun k => ht.shadow k (by omega)
  have hd : t.done = true := by simp [ht.done]
  have hc : t.shcnt = 8 := Fin.ext ht.shcnt
  rw [hr, ht.frame, hx, hd, hc, ht.log, ht.mosi (by decide), ht.sclk (by decide)]
  rfl

end Sys2Proof.Machine
end

section
/-! `apply` as a run (41_spi_driver R124). -/

namespace Sys2Proof.Machine

variable {s : State}

/-- The bus between two transactions (10_state R36 (iv), (v)). -/
structure BusAtRest (s : State) : Prop where
  csn : s.csn = true
  loop : s.loop = false
  eng : s.eng = false
  done : s.done = false
  shcnt : s.shcnt = 8

theorem busAtRest_of_lookup (hb : BusInv s) (hd : s.drv.step = .lookup) : BusAtRest s := by
  obtain ⟨hcsn, hloop, heng, hdone, h8⟩ := hb
  constructor <;> simp_all [stepIndex]

/-! One step of the block for each micro-step that raises nothing (R111 to R123). -/

section
variable (hm : BlockMoves s) (he : engineEnabled s = false) (hp : s.seq.phase = .apply)
include hm he hp

theorem step_lookup {cb : Byte} (hd : s.drv.step = .lookup) (hcb : tableRead s.ps.value.toNat = .ok cb) :
    step s = .next { s with drv := ⟨.csAssert, cb⟩, env := aged 1 s.env } :=
  step_driver hm he hp (driverStep_lookup hd hcb)

theorem step_csAssert (hd : s.drv.step = .csAssert) :
    step s = .next { s with
      csn := false, spiLog := s.spiLog ++ [.csLow], drv := ⟨.loopOn, s.drv.cb⟩, env := aged 1 s.env } :=
  step_driver hm he hp (driverStep_csAssert hd)

theorem step_loopOn (hd : s.drv.step = .loopOn) :
    step s = .next { s with loop := true, drv := ⟨.engStart, s.drv.cb⟩, env := aged 1 s.env } :=
  step_driver hm he hp (driverStep_loopOn hd)

theorem step_engStart (hd : s.drv.step = .engStart) :
    step s = .next { s with eng := true, drv := ⟨.txWrite, s.drv.cb⟩, env := aged 1 s.env } :=
  step_driver hm he hp (driverStep_engStart hd)

theorem step_txWrite (hd : s.drv.step = .txWrite) (h1 : s.eng = true) (h8 : s.shcnt = 8) :
    step s = .next { s with
      txReg := s.drv.cb, shcnt := 0, done := false, drv := ⟨.waitDone, s.drv.cb⟩, env := aged 1 s.env } :=
  step_driver hm he hp (driverStep_txWrite hd h1 h8)

theorem step_waitDone_busy (hd : s.drv.step = .waitDone) (h0 : s.done = false) :
    step s = .next { s with env := aged 1 s.env } :=
  step_driver hm he hp (driverStep_waitDone_busy hd h0)

theorem step_waitDone_ready (hd : s.drv.step = .waitDone) (h1 : s.done = true) :
    step s = .next { s with drv := ⟨.discard, s.drv.cb⟩, env := aged 1 s.env } :=
  step_driver hm he hp (driverStep_waitDone_ready hd h1)

theorem step_discard (hd : s.drv.step = .discard) :
    step s = .next { s with done := false, drv := ⟨.engStop, s.drv.cb⟩, env := aged 1 s.env } :=
  step_driver hm he hp (driverStep_discard hd)

theorem step_engStop (hd : s.drv.step = .engStop) (h8 : s.shcnt = 8) :
    step s = .next { s with eng := false, drv := ⟨.loopOff, s.drv.cb⟩, env := aged 1 s.env } :=
  step_driver hm he hp (driverStep_engStop hd h8)

theorem step_loopOff (hd : s.drv.step = .loopOff) (h8 : s.shcnt = 8) :
    step s = .next { s with loop := false, drv := ⟨.csDeassert, s.drv.cb⟩, env := aged 1 s.env } :=
  step_driver hm he hp (driverStep_loopOff hd h8)

theorem step_csDeassert (hd : s.drv.step = .csDeassert) :
    step s = .next { s with
      csn := true, spiLog := s.spiLog ++ [.csHigh], drv := ⟨.lookup, s.drv.cb⟩, seq := ⟨.prompt, 0⟩,
      env := aged 1 s.env } :=
  step_driver hm he hp (driverStep_csDeassert hd)

end

/-- Micro-steps 0 to 4. -/
theorem runSteps_startTransfer {cb : Byte} (hm : BlockMoves s) (hp : s.seq.phase = .apply)
    (hd : s.drv.step = .lookup) (hcb : tableRead s.ps.value.toNat = .ok cb) (hb : BusAtRest s) :
    runSteps 5 s = .next { s with
      drv := ⟨.waitDone, cb⟩, csn := false, loop := true, eng := true, txReg := cb, shcnt := 0, done := false,
      spiLog := s.spiLog ++ [.csLow], env := aged 5 s.env } := by
  have he := engineEnabled_of_rest hb.shcnt
  refine runSteps_cons (step_lookup hm he hp hd hcb) ?_
  refine runSteps_cons (step_csAssert hm he hp rfl) ?_
  refine runSteps_cons (step_loopOn hm he hp rfl) ?_
  refine runSteps_cons (step_engStart hm he hp rfl) ?_
  refine runSteps_cons (step_txWrite hm (engineEnabled_of_rest hb.shcnt) hp rfl rfl hb.shcnt) ?_
  rfl

/-- Micro-steps 5 to 9 once the transfer is complete. -/
theorem runSteps_endTransfer (hm : BlockMoves s) (hp : s.seq.phase = .apply) (hd : s.drv.step = .waitDone)
    (hx : s.done = true) (h8 : s.shcnt = 8) :
    runSteps 5 s = .next { s with
      seq := ⟨.prompt, 0⟩, drv := ⟨.lookup, s.drv.cb⟩, csn := true, loop := false, eng := false, done := false,
      spiLog := s.spiLog ++ [.csHigh], env := aged 5 s.env } := by
  have he := engineEnabled_of_rest h8
  refine runSteps_cons (step_waitDone_ready hm he hp hd hx) ?_
  refine runSteps_cons (step_discard hm he hp rfl) ?_
  refine runSteps_cons (step_engStop hm he hp rfl h8) ?_
  refine runSteps_cons (step_loopOff hm (engineEnabled_of_rest h8) hp rfl h8) ?_
  refine runSteps_cons (step_csDeassert hm (engineEnabled_of_rest h8) hp rfl) ?_
  rfl

theorem runSteps_apply {cb : Byte} (hm : BlockMoves s) (hp : s.seq.phase = .apply) (hd : s.drv.step = .lookup)
    (hcb : tableRead s.ps.value.toNat = .ok cb) (hb : BusAtRest s) :
    runSteps 18 s = .next { s with
      seq := ⟨.prompt, 0⟩, drv := ⟨.lookup, cb⟩, txReg := cb, rxsh := cb, spiLog := s.spiLog ++ spiWrite cb,
      mosi := byteBit cb 0, sclk := Config.spiCpol, env := aged 18 s.env } := by
  have hn : s.seq.phase ≠ .halted := by simp [hp]
  have hr := runSteps_append (runSteps_startTransfer hm hp hd hcb hb)
    (runSteps_transfer (by exact hm) (by exact hn) rfl rfl rfl)
  rw [runSteps_append hr (runSteps_endTransfer (by exact hm) (by exact hp) rfl rfl rfl)]
  rw [hb.csn, hb.loop, hb.eng, hb.done, hb.shcnt, spiWrite_eq]
  simp [aged_aged]

end Sys2Proof.Machine
end

section
/-! The way of a byte that resolves a setting through the command cycle (42_sequencer_transport R142 to R150): ISR,
wake, dispatch, `apply`, prompt. -/

namespace Sys2Proof.Machine

variable {s : State}

theorem aged_txWait {e : Env} (n : Nat) (hw : e.txWait = 0) : (aged n e).txWait = 0 := by simp [aged, hw]

theorem step_interrupt {b : Byte} {rest : List Turn} (hq : quiescent s = true) (hw : s.env.txWait = 0)
    (ht : s.env.turns = .rxByte b :: rest ∨ s.env.turns = .rxWhenReady b :: rest) :
    step s = .next { s with
      txLog := s.txLog ++ [b], lrb := b, rxp := true, env := aged 1 { s.env with turns := rest } } := by
  have hn : s.seq.phase ≠ .halted := by simp [(quiescent_iff.1 hq).1]
  have hd : deliverByte b s = dropTurn (takeInterrupt b s) := by
    rw [deliverByte, if_neg hn, if_pos hq, if_pos (by simp [txFree, hw])]
  have hr : s.env.turns.tail = rest := by rcases ht with ht | ht <;> rw [ht] <;> rfl
  have hs : turnStep s = .next (dropTurn (takeInterrupt b s)) := by
    rcases ht with ht | ht <;> simp only [turnStep, ht, hq, hd, if_true]
  rw [step, machineStep, hs, ← hr]
  rfl

theorem stageFormat_formatStage (f : Format) : stageFormat (formatStage f) = some f := by cases f <;> rfl

theorem step_wake {f : Format} (hm : BlockMoves s) (he : engineEnabled s = false) (hp : s.seq.phase = .idle)
    (hr : s.rxp = true) (hs : s.ps.stage = formatStage f) :
    step s = .next { s with
      ps := psAfter (decodeByte f s.lrb) s.ps, cb := cbAfter (decodeByte f s.lrb) s.cb, rxp := false,
      seq := ⟨.dispatch, s.seq.idx⟩, env := aged 1 s.env } := by
  have hx : exec (decodeByte f s.lrb) (clearRxp s) = .next (afterClass (decodeByte f s.lrb) (clearRxp s)) :=
    exec_of_stage (by rw [instrFormat_decodeByte]; exact hs)
  refine step_main hm he (t := setPhase .dispatch (afterClass (decodeByte f s.lrb) (clearRxp s))) ?_
  rw [mainStep, hp]
  show idleStep s = _
  rw [idleStep, if_pos hr, wakeStep, hs, stageFormat_formatStage]
  show mapNext _ (exec _ _) = _
  rw [hx]
  rfl

theorem step_toApply (hm : BlockMoves s) (he : engineEnabled s = false) (hp : s.seq.phase = .dispatch)
    (hs : s.ps.stage = .resolved) :
    step s = .next { s with seq := ⟨.apply, s.seq.idx⟩, drv := ⟨.lookup, s.drv.cb⟩, env := aged 1 s.env } :=
  step_main hm he (t := goStep .lookup (setPhase .apply s)) (by simp only [mainStep, hp, dispatchStep, hs])

theorem step_promptByte {b : Byte} (hm : BlockMoves s) (he : engineEnabled s = false) (hp : s.seq.phase = .prompt)
    (hi : s.seq.idx.val < 21) (hb : Config.prompt[s.seq.idx.val]? = some b) (hw : s.env.txWait = 0) :
    step s = .next { s with
      txLog := s.txLog ++ [b], seq := ⟨.prompt, s.seq.idx + 1⟩, env := aged 1 s.env } := by
  have hread : promptRead s.seq.idx.val = .ok b := by rw [promptRead, romRead, hb]
  have hsend : promptStep s = .next (tx b (s.setSeq ⟨s.seq.phase, s.seq.idx + 1⟩)) := by
    rw [promptStep, if_pos hi]
    exact sendStringByte_eq_next.2 (.inr (.inl ⟨by simp [txFree, hw], b, hread, rfl⟩))
  rw [hp] at hsend
  exact step_main hm he (by rw [mainStep, hp]; exact hsend)

theorem step_promptEnd (hm : BlockMoves s) (he : engineEnabled s = false) (hp : s.seq.phase = .prompt)
    (hi : s.seq.idx = 21) :
    step s = .next { s with
      ps := ⟨.await1, s.ps.value⟩, cb := ⟨0, s.cb.b0, s.cb.b1⟩, seq := ⟨.idle, 0⟩, env := aged 1 s.env } :=
  step_main hm he (t := enter .idle (parserRestart s)) (by simp [mainStep, hp, promptStep, hi])

/-- The state with the first `i` bytes of a prompt sent since `s`. -/
def promptedTo (i : Fin 22) (s : State) : State :=
  { s with txLog := s.txLog ++ Config.prompt.take i.val, seq := ⟨.prompt, i⟩, env := aged i.val s.env }

theorem promptedTo_zero (h0 : s.seq = ⟨.prompt, 0⟩) : promptedTo 0 s = s := by
  show { s with txLog := s.txLog ++ [], seq := ⟨.prompt, 0⟩, env := aged 0 s.env } = s
  rw [← h0, List.append_nil]
  rfl

theorem blockMoves_promptedTo (i : Fin 22) (hf : s.fault = FaultSet.empty) (ht : Patient s.env.turns) :
    BlockMoves (promptedTo i s) := blockMoves_of_busy hf ht rfl

theorem engineEnabled_promptedTo (i : Fin 22) (h0 : s.seq = ⟨.prompt, 0⟩) :
    engineEnabled (promptedTo i s) = engineEnabled s := by
  rw [engineEnabled, engineEnabled, h0]
  rfl

theorem step_promptedTo (i : Fin 21) (hf : s.fault = FaultSet.empty) (ht : Patient s.env.turns)
    (he : engineEnabled s = false) (h0 : s.seq = ⟨.prompt, 0⟩) (hw : s.env.txWait = 0) :
    step (promptedTo i.castSucc s) = .next (promptedTo i.succ s) := by
  obtain ⟨b, hb, -⟩ := promptRead_ok i.isLt
  have he' : engineEnabled (promptedTo i.castSucc s) = false := by rw [engineEnabled_promptedTo _ h0, he]
  rw [step_promptByte (blockMoves_promptedTo _ hf ht) he' rfl i.isLt hb (aged_txWait i.val hw)]
  simp [promptedTo, aged_aged, List.take_add_one, hb]

theorem runSteps_promptedTo (i : Fin 22) (hf : s.fault = FaultSet.empty) (ht : Patient s.env.turns)
    (he : engineEnabled s = false) (h0 : s.seq = ⟨.prompt, 0⟩) (hw : s.env.txWait = 0) :
    runSteps i.val s = .next (promptedTo i s) := by
  induction i using Fin.induction with
  | zero =>
    rw [promptedTo_zero h0]
    rfl
  | succ i ih => exact runSteps_append ih (runSteps_cons (step_promptedTo i hf ht he h0 hw) rfl)

/-- A whole prompt (R146, R147). -/
theorem runSteps_prompt (hf : s.fault = FaultSet.empty) (ht : Patient s.env.turns)
    (he : engineEnabled s = false) (h0 : s.seq = ⟨.prompt, 0⟩) (hw : s.env.txWait = 0) :
    runSteps 22 s = .next { s with
      txLog := s.txLog ++ Config.prompt, ps := ⟨.await1, s.ps.value⟩, cb := ⟨0, s.cb.b0, s.cb.b1⟩,
      seq := ⟨.idle, 0⟩, env := aged 22 s.env } :=
  have he' : engineEnabled (promptedTo 21 s) = false := by rw [engineEnabled_promptedTo _ h0, he]
  runSteps_append (m := 21) (n := 1) (runSteps_promptedTo 21 hf ht he h0 hw)
    (runSteps_cons (step_promptEnd (blockMoves_promptedTo _ hf ht) he' rfl rfl) rfl)

/-- A byte that resolves a setting, from its wake to the end of the prompt that follows (R202). -/
theorem runSteps_resolve {f : Format} {v : Setting} {cb : Byte} (hf : s.fault = FaultSet.empty)
    (ht : Patient s.env.turns) (hb : BusAtRest s) (hp : s.seq.phase = .idle) (hr : s.rxp = true)
    (hs : s.ps.stage = formatStage f) (hv : psAfter (decodeByte f s.lrb) s.ps = ⟨.resolved, v⟩)
    (hcb : tableRead v.toNat = .ok cb) (hw : s.env.txWait = 0) :
    runSteps 42 s = .next { s with
      ps := ⟨.await1, v⟩, cb := { cbAfter (decodeByte f s.lrb) s.cb with count := 0 }, rxp := false,
      seq := ⟨.idle, 0⟩, drv := ⟨.lookup, cb⟩, txReg := cb, rxsh := cb, mosi := byteBit cb 0,
      sclk := Config.spiCpol, txLog := s.txLog ++ Config.prompt, spiLog := s.spiLog ++ spiWrite cb,
      env := aged 42 s.env } := by
  have hm : BlockMoves s := blockMoves_of_busy hf ht (by simp [quiescent, hr])
  refine runSteps_cons (step_wake hm (engineEnabled_of_rest hb.shcnt) hp hr hs) ?_
  rw [hv]
  refine runSteps_cons (step_toApply (blockMoves_of_busy hf ht rfl) (engineEnabled_of_rest hb.shcnt) rfl rfl) ?_
  refine runSteps_append (m := 18) (n := 22) (runSteps_apply (blockMoves_of_busy hf ht rfl) rfl rfl hcb
    ⟨hb.csn, hb.loop, hb.eng, hb.done, hb.shcnt⟩) ?_
  refine Eq.trans (runSteps_prompt hf ht (engineEnabled_of_rest hb.shcnt) rfl
    (aged_txWait 18 (aged_txWait 1 (aged_txWait 1 hw)))) ?_
  simp [aged_aged]

/-- A byte that resolves a setting, from its delivery in a quiescent state to the next one (R202). -/
theorem runSteps_deliver_resolving {f : Format} {b cb : Byte} {v : Setting} {rest : List Turn} (hi : Inv s)
    (hq : quiescent s = true) (hs : s.ps.stage = formatStage f)
    (hv : psAfter (decodeByte f b) s.ps = ⟨.resolved, v⟩) (hcb : tableRead v.toNat = .ok cb)
    (ht : s.env.turns = .rxByte b :: rest ∨ s.env.turns = .rxWhenReady b :: rest) (hr : Patient rest)
    (hw : s.env.txWait = 0) :
    ∃ t, runSteps 43 s = .next t ∧ Inv t ∧ quiescent t = true ∧ t.ps.stage = .await1 ∧ t.env.turns = rest ∧
      t.env.txWait = 0 ∧ t.txLog = s.txLog ++ b :: Config.prompt ∧ t.spiLog = s.spiLog ++ spiWrite cb ∧
      t.lrb = b := by
  obtain ⟨hp, -, hf⟩ := quiescent_iff.1 hq
  have hi' : RunInv s := hi.runInv (by simp [hp])
  obtain ⟨hcsn, hloop, heng, hdone, h8⟩ :=
    busAtRest_of_lookup hi'.bus (drvStep_eq_lookup hi'.sequencer (by simp [hp]))
  have hrun := runSteps_cons (step_interrupt hq hw ht)
    (runSteps_resolve hf hr ⟨hcsn, hloop, heng, hdone, h8⟩ hp rfl hs hv hcb (aged_txWait 1 hw))
  refine ⟨_, hrun, runSteps_keeps (fun _ _ => step_keeps_inv) hrun hi, ?_, rfl, rfl,
    aged_txWait 42 (aged_txWait 1 hw), List.append_assoc .., rfl, rfl⟩
  exact quiescent_iff.2 ⟨rfl, rfl, hf⟩

/-- A digit's setting fits `SETTING_W` bits and is in range (30_encoding R62). -/
theorem digit_setting : ∀ b : Byte, isDigit b = true →
    ((b - 0x30#8).setWidth 4).toNat = (b - 0x30#8).toNat ∧ (b - 0x30#8).toNat ≤ 10 := by
  decide

theorem psAfter_digit {b : Byte} (hb : isDigit b = true) (h1 : b ≠ 0x31) (p : ParserState) :
    psAfter (decodeByte .f1 b) p = ⟨.resolved, (b - 0x30#8).setWidth 4⟩ := by
  rw [psAfter_of_f1 (instrFormat_decodeByte .f1 b) (wellFormed_decodeByte .f1 b), encode_decodeByte, if_neg h1,
    if_pos hb]

end Sys2Proof.Machine
end

section
/-! The statements of the family 41_spi_driver. -/

namespace Sys2Proof.Machine

/-- Settles O36: the step is `shiftBit`, which writes of `RXSH` bit `k` at most. -/
theorem engineSendsOneBit : Obligations.EngineSendsOneBit := by
  intro s hf hn ht heng hlt
  have he : engineEnabled s = true := engineEnabled_iff.2 ⟨hn, heng, hlt⟩
  have hdone : (s.done || decide (s.shcnt.val = 7)) = (s.done || decide (s.shcnt + 1 = 8)) := by
    simp only [shcnt_succ_eq_eight]
  refine ⟨bitIndex s.shcnt.val, _, rfl, step_engine (blockMoves_of_no_turns hf ht) he, rfl, rfl, shcnt_succ hlt,
    hdone, fun hl => ?_, fun j hj => ?_, rfl⟩
  · exact (byteBit_shadowAfter ..).trans (if_pos ⟨hl, rfl⟩)
  · exact (byteBit_shadowAfter ..).trans (if_neg fun h => hj h.2)

/-- Settles O37: by induction on the bits sent (`runSteps_bits`); after the eighth every bit of `RXSH` is `TXREG`'s. -/
theorem transferShadowsTransmitRegister : Obligations.TransferShadowsTransmitRegister := by
  intro s hf hn ht heng hl h0
  refine ⟨_, runSteps_transfer (blockMoves_of_no_turns hf ht) hn heng hl h0, rfl, rfl, rfl, rfl, ?_⟩
  rw [aged, ht]

/-- Settles O38: five micro-steps, eight bits, five micro-steps. -/
theorem applyInEighteenSteps : Obligations.ApplyInEighteenSteps := by
  intro s hf ht hp hd hv hcsn hloop heng hdone h8
  obtain ⟨cb, -, hcb⟩ := tableRead_ok hv
  refine ⟨cb, hcb, ?_⟩
  rw [runSteps_apply (blockMoves_of_no_turns hf ht) hp hd hcb ⟨hcsn, hloop, heng, hdone, h8⟩, aged, ht]

/-- Settles O39: a transfer is in progress only in micro-step 5 of `apply`, where MAIN waits for DONE. -/
theorem engineAndMainNeverBoth : Obligations.EngineAndMainNeverBoth := by
  intro s hi he
  obtain ⟨hn, -, hlt⟩ := engineEnabled_iff.1 he
  have hr : RunInv s := hi.runInv hn
  have hd : s.drv.step = .waitDone := waitDone_of_shcnt_lt hr.bus hlt
  have hp : s.seq.phase = .apply := by
    by_contra hp
    simp [drvStep_eq_lookup hr.sequencer hp] at hd
  have h8 : s.shcnt ≠ 8 := fun h => by simp [h] at hlt
  obtain ⟨-, -, -, hdone, -⟩ := hr.bus
  rw [mainStep, hp]
  exact driverStep_waitDone_busy hd (by simp [hdone, hd, h8])

/-- Settles O43: each delivery of the digit is one command of 43 steps, and the state after the first meets what the
second needs. -/
theorem sameCommandTwice : Obligations.SameCommandTwice := by
  intro b s hi hq hs hb h1 ht hw
  obtain ⟨hset, hle⟩ := digit_setting b hb
  obtain ⟨cb, -, hcb⟩ := tableRead_ok hle
  have hcb' : tableRead ((b - 0x30#8).setWidth 4).toNat = .ok cb := by rw [hset, hcb]
  obtain ⟨t, hst, hit, hqt, hst1, htt, hwt, -, hlt, -⟩ :=
    runSteps_deliver_resolving (f := .f1) hi hq hs (psAfter_digit hb h1 _) hcb' (.inr ht) (.inr ⟨b, [], rfl⟩) hw
  obtain ⟨u, htu, -, hqu, -, hut, -, -, hlu, -⟩ :=
    runSteps_deliver_resolving (f := .f1) hit hqt hst1 (psAfter_digit hb h1 _) hcb' (.inr htt) (.inl rfl) hwt
  exact ⟨_, u, cb, hcb, runSteps_append hst htu, hqu, hut, by rw [hlu, hlt]⟩

/-- Settles O30: the table has the entries 0 to 10. -/
theorem lookupLatchesControlByte : Obligations.LookupLatchesControlByte := by
  rintro s ⟨ht, hf, he⟩ hp hd
  have hm := blockMoves_of_no_turns hf ht
  constructor <;> intro hv
  · obtain ⟨cb, -, hcb⟩ := tableRead_ok hv
    exact ⟨cb, _, hcb, step_lookup hm he hp hd hcb⟩
  · exact ⟨_, step_driver hm he hp (driverStep_lookup_fails hd hv)⟩

/-- Settles O31: micro-steps 1 and 9. -/
theorem chipSelectSteps : Obligations.ChipSelectSteps := by
  rintro s ⟨ht, hf, he⟩ hp
  have hm := blockMoves_of_no_turns hf ht
  exact ⟨fun hd => ⟨_, step_csAssert hm he hp hd⟩, fun hd => ⟨_, step_csDeassert hm he hp hd⟩⟩

/-- Settles O32: micro-steps 2, 3, 7 and 8. -/
theorem loopbackAndEngineSteps : Obligations.LoopbackAndEngineSteps := by
  rintro s ⟨ht, hf, he⟩ hp
  have hm := blockMoves_of_no_turns hf ht
  exact ⟨fun hd => ⟨_, step_loopOn hm he hp hd⟩, fun hd => ⟨_, step_engStart hm he hp hd⟩,
    fun hd h8 => ⟨_, step_engStop hm he hp hd h8⟩, fun hd h8 => ⟨_, step_loopOff hm he hp hd h8⟩⟩

/-- Settles O33: micro-step 4. -/
theorem transmitWriteStartsTransfer : Obligations.TransmitWriteStartsTransfer := by
  rintro s ⟨ht, hf, he⟩ hp hd heng h8
  exact ⟨_, step_txWrite (blockMoves_of_no_turns hf ht) he hp hd heng h8⟩

/-- Settles O34: micro-step 5 with DONE clear and set, and micro-step 6. -/
theorem waitThenDiscard : Obligations.WaitThenDiscard := by
  rintro s ⟨ht, hf, he⟩ hp
  have hm := blockMoves_of_no_turns hf ht
  exact ⟨fun hd hx => ⟨_, step_waitDone_busy hm he hp hd hx⟩,
    fun hd hx => ⟨_, step_waitDone_ready hm he hp hd hx⟩, fun hd => ⟨_, step_discard hm he hp hd⟩⟩

/-- Settles O35: the three register writes, then the three micro-steps that ask for one. -/
theorem misuseOfTheEngine : Obligations.MisuseOfTheEngine := by
  refine ⟨fun s b => writeTxReg_misuse b, fun s h => ⟨writeEng_misuse h, writeLoop_misuse h⟩, ?_⟩
  rintro s ⟨ht, hf, he⟩ hp hmis
  have hraise : driverStep s = .next (raise .engineMisuse s) := by
    rcases hmis with ⟨hd, h⟩ | ⟨hd | hd, h⟩
    · exact driverStep_txWrite_misuse hd h
    · exact driverStep_engStop_misuse hd h
    · exact driverStep_loopOff_misuse hd h
  exact ⟨_, step_driver (blockMoves_of_no_turns hf ht) he hp hraise⟩

/-- Settles O54: the bit step is `shiftBit`, and `shadowAfter` is `RXSH` with LOOP = 0. -/
theorem bitStepWithoutLoopbackKeepsShadow : Obligations.BitStepWithoutLoopbackKeepsShadow := by
  intro s he hl
  obtain ⟨-, -, hlt⟩ := engineEnabled_iff.1 he
  have hx : (shiftBit s).rxsh = s.rxsh := if_neg (by simp [hl])
  rw [engineStep, if_pos he]
  exact ⟨hx, shcnt_succ hlt, bitIndex s.shcnt.val, rfl, rfl, rfl⟩

end Sys2Proof.Machine
end

section
/-! SUPPORT. The steps of MAIN's command cycle that the way of a resolved setting does not take, and the steps in which
nothing but time passes (42_sequencer_transport R144, R148, R150, R152). -/

namespace Sys2Proof.Machine

variable {s : State}

theorem txFree_iff : txFree s = true ↔ s.env.txWait = 0 := by simp [txFree]

theorem txFree_eq_false (hw : 0 < s.env.txWait) : txFree s = false :=
  Bool.eq_false_iff.2 fun h => hw.ne' (txFree_iff.1 h)

theorem step_toIdle (hm : BlockMoves s) (he : engineEnabled s = false) (hp : s.seq.phase = .dispatch)
    (hs : s.ps.stage = .await2) : step s = .next { s with seq := ⟨.idle, s.seq.idx⟩, env := aged 1 s.env } :=
  step_main hm he (t := setPhase .idle s) (by simp only [mainStep, hp, dispatchStep, hs])

theorem step_toMessage (hm : BlockMoves s) (he : engineEnabled s = false) (hp : s.seq.phase = .dispatch)
    (hs : s.ps.stage = .invalid) : step s = .next { s with seq := ⟨.invmsg, 0⟩, env := aged 1 s.env } :=
  step_main hm he (t := enterInvalid s) (by simp only [mainStep, hp, dispatchStep, hs])

theorem mainStep_dispatch_await1 (hp : s.seq.phase = .dispatch) (hs : s.ps.stage = .await1) :
    mainStep s = .refused .dispatchAwait1 := by
  simp only [mainStep, hp, dispatchStep, hs]

theorem step_messageByte {b : Byte} (hm : BlockMoves s) (he : engineEnabled s = false) (hp : s.seq.phase = .invmsg)
    (hi : s.seq.idx.val < 21) (hb : invalidMsgRead s.seq.idx.val = .ok b) (hw : s.env.txWait = 0) :
    step s = .next { s with
      txLog := s.txLog ++ [b], seq := ⟨.invmsg, s.seq.idx + 1⟩, env := aged 1 s.env } := by
  have hsend : invmsgStep s = .next (tx b (s.setSeq ⟨s.seq.phase, s.seq.idx + 1⟩)) := by
    rw [invmsgStep, if_pos hi]
    exact sendStringByte_eq_next.2 (.inr (.inl ⟨txFree_iff.2 hw, b, hb, rfl⟩))
  rw [hp] at hsend
  exact step_main hm he (by rw [mainStep, hp]; exact hsend)

theorem step_messageEnd (hm : BlockMoves s) (he : engineEnabled s = false) (hp : s.seq.phase = .invmsg)
    (hi : s.seq.idx = 21) : step s = .next { s with seq := ⟨.prompt, 0⟩, env := aged 1 s.env } :=
  step_main hm he (t := leaveInvalid s) (by simp [mainStep, hp, invmsgStep, hi])

/-- A string byte waits while the transmit buffer is full (R144). -/
theorem mainStep_waits_for_buffer (hp : s.seq.phase = .prompt ∨ s.seq.phase = .invmsg) (hi : s.seq.idx.val < 21)
    (hw : 0 < s.env.txWait) : mainStep s = .next s := by
  have hwait (r : Except FaultReason Byte) : sendStringByte r s = .next s :=
    sendStringByte_eq_next.2 (.inl ⟨txFree_eq_false hw, rfl⟩)
  rcases hp with hp | hp
  · simp only [mainStep, hp, promptStep, if_pos hi, hwait]
  · simp only [mainStep, hp, invmsgStep, if_pos hi, hwait]

/-- The echo of a byte waits while the transmit buffer is full, and the turn of the byte stays (R144). -/
theorem turnStep_echo_waits {b : Byte} {rest : List Turn} (hq : quiescent s = true) (hw : 0 < s.env.txWait)
    (ht : s.env.turns = .rxByte b :: rest ∨ s.env.turns = .rxWhenReady b :: rest) : turnStep s = .next s := by
  obtain ⟨hp, -, -⟩ := quiescent_iff.1 hq
  have hd : deliverByte b s = s := by simp [deliverByte, hp, hq, txFree_eq_false hw]
  rcases ht with ht | ht <;> simp only [turnStep, ht, hq, hd, if_true]

/-- MAIN's wake runs the class of the byte in `LRB` (R149). -/
theorem mainStep_wake {f : Format} (hp : s.seq.phase = .idle) (hr : s.rxp = true)
    (hs : stageFormat s.ps.stage = some f) :
    mainStep s = mapNext (setPhase .dispatch) (exec (decodeByte f s.lrb) (clearRxp s)) := by
  simp only [mainStep, hp, idleStep, hr, if_true, wakeStep, hs]

theorem decodeByte_of_decode {f : Format} {b : Byte} {i : Instr} {bytes rest : List Byte}
    (h : decode f (b :: bytes) = .ok (i, rest)) : decodeByte f b = i := by
  injection h with h
  exact congrArg Prod.fst h

/-- No byte class leaves AWAIT1 as the stage (R150). -/
theorem psAfter_stage_ne_await1 (i : Instr) (p : ParserState) : (psAfter i p).stage ≠ .await1 := by
  cases i <;> nofun

/-- Between two bytes the bus is at rest (R158). -/
theorem busAtRest_of_quiescent (hi : Inv s) (hq : quiescent s = true) : BusAtRest s := by
  obtain ⟨hp, -, -⟩ := quiescent_iff.1 hq
  have hr : RunInv s := hi.runInv (by simp [hp])
  exact busAtRest_of_lookup hr.bus (drvStep_eq_lookup hr.sequencer (by simp [hp]))

/-- With no byte to come MAIN idles (R148). -/
theorem step_idle (he : engineEnabled s = false) (hq : quiescent s = true) (ht : s.env.turns = []) :
    step s = .next { s with env := aged 1 s.env } := by
  obtain ⟨hp, hr, hf⟩ := quiescent_iff.1 hq
  refine step_main (t := s) (blockMoves_of_no_turns hf ht) he ?_
  simp [mainStep, hp, idleStep, hr]

theorem runSteps_idle (he : engineEnabled s = false) (hq : quiescent s = true) (ht : s.env.turns = []) (n : Nat) :
    runSteps n s = .next { s with env := aged n s.env } := by
  induction n with
  | zero => rfl
  | succ n ih =>
    refine (runSteps_append ih (runSteps_cons (step_idle (by exact he) (by exact hq) ht) rfl)).trans ?_
    rw [aged_aged]

end Sys2Proof.Machine
end

section
/-! One byte from its delivery to the next quiescent state (42_sequencer_transport R155, 70_reset_and_hazards R202): the
byte resolves a setting, or waits for a second byte, or is rejected, and `OnByte` has an entry for each. -/

namespace Sys2Proof.Machine

variable {s t : State}

/-- The state with the first `i` bytes of the invalid message sent since `s`. -/
def messagedTo (i : Fin 22) (s : State) : State :=
  { s with txLog := s.txLog ++ Config.invalidMsg.take i.val, seq := ⟨.invmsg, i⟩, env := aged i.val s.env }

theorem messagedTo_zero (h0 : s.seq = ⟨.invmsg, 0⟩) : messagedTo 0 s = s := by
  show { s with txLog := s.txLog ++ [], seq := ⟨.invmsg, 0⟩, env := aged 0 s.env } = s
  rw [← h0, List.append_nil]
  rfl

theorem blockMoves_messagedTo (i : Fin 22) (hf : s.fault = FaultSet.empty) (ht : Patient s.env.turns) :
    BlockMoves (messagedTo i s) := blockMoves_of_busy hf ht rfl

theorem step_messagedTo (i : Fin 21) (hf : s.fault = FaultSet.empty) (ht : Patient s.env.turns)
    (h8 : s.shcnt = 8) (hw : s.env.txWait = 0) :
    step (messagedTo i.castSucc s) = .next (messagedTo i.succ s) := by
  obtain ⟨b, hb, hread⟩ := invalidMsgRead_ok i.isLt
  rw [step_messageByte (blockMoves_messagedTo i.castSucc hf ht) (engineEnabled_of_rest h8) rfl i.isLt hread
    (aged_txWait i.val hw)]
  simp [messagedTo, aged_aged, List.take_add_one, hb]

theorem runSteps_messagedTo (i : Fin 22) (hf : s.fault = FaultSet.empty) (ht : Patient s.env.turns)
    (h8 : s.shcnt = 8) (h0 : s.seq = ⟨.invmsg, 0⟩) (hw : s.env.txWait = 0) :
    runSteps i.val s = .next (messagedTo i s) := by
  induction i using Fin.induction with
  | zero =>
    rw [messagedTo_zero h0]
    rfl
  | succ i ih => exact runSteps_append ih (runSteps_cons (step_messagedTo i hf ht h8 hw) rfl)

/-- A whole invalid message (R152). -/
theorem runSteps_message (hf : s.fault = FaultSet.empty) (ht : Patient s.env.turns) (h8 : s.shcnt = 8)
    (h0 : s.seq = ⟨.invmsg, 0⟩) (hw : s.env.txWait = 0) :
    runSteps 22 s = .next { s with
      txLog := s.txLog ++ Config.invalidMsg, seq := ⟨.prompt, 0⟩, env := aged 22 s.env } :=
  runSteps_append (m := 21) (n := 1) (runSteps_messagedTo 21 hf ht h8 h0 hw)
    (runSteps_cons (step_messageEnd (blockMoves_messagedTo _ hf ht) (engineEnabled_of_rest h8) rfl rfl) rfl)

/-- What the parser makes of a byte, beside what `OnByte` says of it. -/
inductive ByteOutcome (f : Format) (b : Byte) (p : ParserState) : Prop
  | resolves (v : Setting) (cb : Byte) (hps : psAfter (decodeByte f b) p = ⟨.resolved, v⟩)
      (hcb : tableRead v.toNat = .ok cb) (hon : onByte f b = applied b cb)
  | awaits (hps : psAfter (decodeByte f b) p = ⟨.await2, 1⟩) (hon : onByte f b = ⟨.f2, [b], []⟩)
  | rejects (hps : psAfter (decodeByte f b) p = ⟨.invalid, p.value⟩) (hon : onByte f b = rejected b)

theorem onByte_digit {b cb : Byte} (hb : isDigit b = true) (h0 : b ≠ 0x30) (h1 : b ≠ 0x31)
    (hcb : Config.table[(b - 0x30#8).toNat]? = some cb) : onByte .f1 b = applied b cb := by
  simp only [onByte, if_neg h0, if_neg h1, if_pos hb, hcb]

theorem byteOutcome_f1 (b : Byte) (p : ParserState) : ByteOutcome .f1 b p := by
  by_cases h0 : b = 0x30
  · subst h0
    exact .resolves 0 0x00 rfl rfl rfl
  by_cases h1 : b = 0x31
  · subst h1
    exact .awaits rfl rfl
  by_cases hd : isDigit b = true
  · obtain ⟨hset, hle⟩ := digit_setting b hd
    obtain ⟨cb, htab, hcb⟩ := tableRead_ok hle
    exact .resolves _ cb (psAfter_digit hd h1 p) (by rw [hset, hcb]) (onByte_digit hd h0 h1 htab)
  · refine .rejects ?_ (by simp only [onByte, if_neg h0, if_neg h1, if_neg hd])
    rw [psAfter_of_f1 (instrFormat_decodeByte .f1 b) (wellFormed_decodeByte .f1 b), encode_decodeByte, if_neg h1,
      if_neg hd]

theorem byteOutcome_f2 (b : Byte) (p : ParserState) : ByteOutcome .f2 b p := by
  by_cases h0 : b = 0x30
  · subst h0
    exact .resolves 10 0xFF rfl rfl rfl
  by_cases hcr : b = 0x0D
  · subst hcr
    exact .resolves 1 0x1A rfl rfl rfl
  · refine .rejects ?_ (by simp only [onByte, if_neg h0, if_neg hcr])
    rw [psAfter_of_f2 (instrFormat_decodeByte .f2 b) (wellFormed_decodeByte .f2 b), encode_decodeByte, if_neg h0,
      if_neg hcr]

theorem byteOutcome (f : Format) (b : Byte) (p : ParserState) : ByteOutcome f b p :=
  match f with
  | .f1 => byteOutcome_f1 b p
  | .f2 => byteOutcome_f2 b p

/-- The next quiescent state after the byte `b`, delivered to `s` as the first turn before `rest`: the stage and both
logs are what the response `r` says. -/
structure Answered (r : Response) (b : Byte) (rest : List Turn) (s t : State) : Prop where
  inv : Inv t
  quiescent : quiescent t = true
  stage : t.ps.stage = formatStage r.next
  txLog : t.txLog = s.txLog ++ r.txGain
  spiLog : t.spiLog = s.spiLog ++ r.spiGain
  lrb : t.lrb = b
  turns : t.env.turns = rest
  txWait : t.env.txWait = 0

/-- A byte that waits for a second one, from its wake to the next quiescent state (R202). -/
theorem runSteps_await {f : Format} {v : Setting} (hf : s.fault = FaultSet.empty) (ht : Patient s.env.turns)
    (h8 : s.shcnt = 8) (hp : s.seq.phase = .idle) (hr : s.rxp = true) (hs : s.ps.stage = formatStage f)
    (hv : psAfter (decodeByte f s.lrb) s.ps = ⟨.await2, v⟩) :
    runSteps 2 s = .next { s with
      ps := ⟨.await2, v⟩, cb := cbAfter (decodeByte f s.lrb) s.cb, rxp := false, seq := ⟨.idle, s.seq.idx⟩,
      env := aged 2 s.env } := by
  have hm : BlockMoves s := blockMoves_of_busy hf ht (by simp [quiescent, hr])
  refine runSteps_cons (step_wake hm (engineEnabled_of_rest h8) hp hr hs) ?_
  rw [hv]
  refine runSteps_cons (step_toIdle (blockMoves_of_busy hf ht rfl) (engineEnabled_of_rest h8) rfl rfl) ?_
  simp [aged_aged]

/-- A byte that is rejected, from its wake to the end of the prompt that follows the message (R202). -/
theorem runSteps_reject {f : Format} {v : Setting} (hf : s.fault = FaultSet.empty) (ht : Patient s.env.turns)
    (h8 : s.shcnt = 8) (hp : s.seq.phase = .idle) (hr : s.rxp = true) (hs : s.ps.stage = formatStage f)
    (hv : psAfter (decodeByte f s.lrb) s.ps = ⟨.invalid, v⟩) (hw : s.env.txWait = 0) :
    runSteps 46 s = .next { s with
      ps := ⟨.await1, v⟩, cb := { cbAfter (decodeByte f s.lrb) s.cb with count := 0 }, rxp := false,
      seq := ⟨.idle, 0⟩, txLog := s.txLog ++ Config.invalidMsg ++ Config.prompt, env := aged 46 s.env } := by
  have hm : BlockMoves s := blockMoves_of_busy hf ht (by simp [quiescent, hr])
  have hw2 := aged_txWait 1 (aged_txWait 1 hw)
  refine runSteps_cons (step_wake hm (engineEnabled_of_rest h8) hp hr hs) ?_
  rw [hv]
  refine runSteps_cons (step_toMessage (blockMoves_of_busy hf ht rfl) (engineEnabled_of_rest h8) rfl rfl) ?_
  refine runSteps_append (m := 22) (n := 22) (runSteps_message hf ht h8 rfl hw2) ?_
  refine Eq.trans (runSteps_prompt hf ht (engineEnabled_of_rest h8) rfl (aged_txWait 22 hw2)) ?_
  simp [aged_aged]

/-- One byte, from its delivery in a quiescent state to the next one, is one application of `OnByte`. -/
theorem runSteps_deliver {f : Format} {b : Byte} {rest : List Turn} (hi : Inv s) (hq : quiescent s = true)
    (hs : s.ps.stage = formatStage f)
    (ht : s.env.turns = .rxByte b :: rest ∨ s.env.turns = .rxWhenReady b :: rest) (hr : Patient rest)
    (hw : s.env.txWait = 0) : ∃ t, runSteps (stepsFor f b) s = .next t ∧ Answered (onByte f b) b rest s t := by
  obtain ⟨hp, -, hf⟩ := quiescent_iff.1 hq
  have h8 : s.shcnt = 8 := (busAtRest_of_quiescent hi hq).shcnt
  have hecho := step_interrupt hq hw ht
  have hw1 := aged_txWait 1 (e := { s.env with turns := rest }) hw
  obtain ⟨v, cb, hps, hcb, hon⟩ | ⟨hps, hon⟩ | ⟨hps, hon⟩ := byteOutcome f b s.ps
  · have hn : stepsFor f b = 43 := by rw [stepsFor, hon]; rfl
    obtain ⟨t, hrun, hit, hqt, hst, htt, hwt, htx, hspi, hlrb⟩ :=
      runSteps_deliver_resolving hi hq hs hps hcb ht hr hw
    rw [hn, hon]
    exact ⟨t, hrun, hit, hqt, hst, htx, hspi, hlrb, htt, hwt⟩
  · have hn : stepsFor f b = 3 := by rw [stepsFor, hon]; rfl
    have hrun := runSteps_cons hecho (runSteps_await hf hr h8 hp rfl hs hps)
    rw [hn, hon]
    exact ⟨_, hrun, runSteps_keeps (fun _ _ => step_keeps_inv) hrun hi, quiescent_iff.2 ⟨rfl, rfl, hf⟩, rfl, rfl,
      (List.append_nil _).symm, rfl, rfl, aged_txWait 2 hw1⟩
  · have hn : stepsFor f b = 47 := by rw [stepsFor, hon]; rfl
    have hrun := runSteps_cons hecho (runSteps_reject hf hr h8 hp rfl hs hps hw1)
    rw [hn, hon]
    exact ⟨_, hrun, runSteps_keeps (fun _ _ => step_keeps_inv) hrun hi, quiescent_iff.2 ⟨rfl, rfl, hf⟩, rfl,
      by simp [rejected], (List.append_nil _).symm, rfl, rfl, aged_txWait 46 hw1⟩

theorem patient_whenReady (bs : List Byte) : Patient (bs.map .rxWhenReady) :=
  match bs with
  | [] => .inl rfl
  | b :: bs => .inr ⟨b, bs.map .rxWhenReady, rfl⟩

end Sys2Proof.Machine
end

section
/-! Progress from the invariant (42_sequencer_transport R153): every step completes, and of the moves only the overrun
raises a fault. -/

namespace Sys2Proof.Machine

variable {s t : State}

theorem orRaise_completes (s : State) (o : Except FaultReason State) : ∃ t, orRaise s o = .next t := by
  cases o <;> exact ⟨_, rfl⟩

theorem sendStringByte_completes (r : Except FaultReason Byte) (s : State) : ∃ t, sendStringByte r s = .next t := by
  unfold sendStringByte
  split
  · exact orRaise_completes ..
  · exact ⟨s, rfl⟩

theorem idleStep_completes (hs : s.ps.stage = .await1 ∨ s.ps.stage = .await2) : ∃ t, idleStep s = .next t := by
  obtain ⟨f, hf⟩ : ∃ f, stageFormat s.ps.stage = some f := by
    rcases hs with hs | hs <;> exact ⟨_, by rw [hs]; rfl⟩
  unfold idleStep
  split
  · obtain ⟨u, hu⟩ := exec_completes (decodeByte f s.lrb) (clearRxp s) (by rw [instrFormat_decodeByte]; exact hf)
    exact ⟨_, by rw [wakeStep, hf]; exact mapNext_eq_next.2 ⟨u, hu, rfl⟩⟩
  · exact ⟨s, rfl⟩

theorem dispatchStep_completes (hs : s.ps.stage ≠ .await1) : ∃ t, dispatchStep s = .next t := by
  unfold dispatchStep
  split
  · exact absurd ‹_› hs
  all_goals exact ⟨_, rfl⟩

/-- MAIN is refused in a stage alone that its phase is never entered with. -/
theorem mainStep_completes (hs : stageFits s.seq.phase s.ps.stage = true) : ∃ t, mainStep s = .next t := by
  cases hp : s.seq.phase <;> simp only [hp, mainStep] at hs ⊢
  case halted => exact ⟨s, rfl⟩
  case prompt =>
    unfold promptStep
    split
    · exact sendStringByte_completes ..
    · exact ⟨_, rfl⟩
  case idle => exact idleStep_completes (by simpa [stageFits] using hs)
  case dispatch => exact dispatchStep_completes (by simpa [stageFits] using hs)
  case apply => exact orRaise_completes ..
  case invmsg =>
    unfold invmsgStep
    split
    · exact sendStringByte_completes ..
    · exact ⟨_, rfl⟩

theorem blockStep_completes (hf : s.fault = FaultSet.empty) (hm : ∃ t, mainStep s = .next t) :
    ∃ t, blockStep s = .next t := by
  unfold blockStep
  simp only [unlessFaulted_eq_next, hf, true_and]
  split
  · exact ⟨_, rfl⟩
  · exact hm

/-- ENV's turns complete whatever the state, and the block's own where FAULT is empty and MAIN is not refused. -/
theorem step_completes (hf : s.fault = FaultSet.empty) (hm : ∃ t, mainStep s = .next t) : ∃ t, step s = .next t := by
  suffices ∃ u, turnStep s = .next u by
    obtain ⟨u, hu⟩ := this
    exact ⟨_, mapNext_eq_next.2 ⟨u, hu, rfl⟩⟩
  unfold turnStep
  split
  · exact blockStep_completes hf hm
  · exact ⟨_, rfl⟩
  · split
    · exact ⟨_, rfl⟩
    · exact blockStep_completes hf hm
  · exact ⟨_, rfl⟩
  · exact ⟨_, rfl⟩
  · obtain ⟨u, hu⟩ := hm
    exact ⟨_, mapNext_eq_next.2 ⟨u, unlessFaulted_eq_next.2 ⟨hf, hu⟩, rfl⟩⟩
  · exact ⟨_, mapNext_eq_next.2 ⟨_, unlessFaulted_eq_next.2 ⟨hf, rfl⟩, rfl⟩⟩

theorem stageFits_of_inv (hi : Inv s) : stageFits s.seq.phase s.ps.stage = true := by
  by_cases hp : s.seq.phase = .halted
  · rw [hp]
    rfl
  · obtain ⟨-, -, -, hfit⟩ := hi.parser hp
    exact hfit

/-- In APPLY a setting is resolved, so in range, and the driver's step says what the bus registers hold: neither
ContractViolation nor EngineMisuse (40_parser R97, 60_exceptions R179, R181). -/
theorem mainMove_keeps_fault (h : MainMove s t) (hi : RunInv s) : t.fault = s.fault := by
  cases h
  case lookupFails hp _ hv =>
    obtain ⟨hle, -, -, hfit⟩ := hi.parser
    have hs : s.ps.stage = .resolved := by simpa [hp, stageFits] using hfit
    exact absurd (hle hs) (by omega)
  case misuse _ hm =>
    obtain ⟨-, -, heng, -, h8⟩ := hi.bus
    rcases hm with ⟨hd, he | hn⟩ | ⟨hd | hd, hn⟩
    · simp [heng, hd, stepIndex] at he
    all_goals exact absurd (h8 (by simp [hd])) hn
  all_goals rfl

/-- The one move that raises a fault is the overrun. -/
theorem move_fault (h : Move s t) (hi : Inv s) : t.fault = s.fault ∨
    t = raise .rxOverrun s ∧ (∃ b, s.env.turns.head? = some (.rxByte b)) ∧ quiescent s = false := by
  cases h
  case overrun b hq hn hh => exact .inr ⟨rfl, ⟨b, hh⟩, hq⟩
  case main _ hm =>
    by_cases hp : s.seq.phase = .halted
    · rw [mainMove_of_halted hm hp]
      exact .inl rfl
    · exact .inl (mainMove_keeps_fault hm (hi.runInv hp))
  case waits | interrupt | engine => exact .inl rfl

end Sys2Proof.Machine
end

section
/-! The statements of the family 42_sequencer_transport. -/

namespace Sys2Proof.Machine

/-- Settles O40: a byte resolves a setting, waits for a second byte or is rejected, and each way is a run of its counted
length (`runSteps_deliver`). -/
theorem oneByteMatchesOnByte : Obligations.OneByteMatchesOnByte := by
  intro f b s hi hq hs ht hw
  obtain ⟨t, hrun, h⟩ := runSteps_deliver hi hq hs (.inl ht) (.inl rfl) hw
  exact ⟨t, hrun, h.inv, h.quiescent, h.stage, h.txLog, h.spiLog, h.lrb, h.turns, h.txWait⟩

/-- Settles O42: by induction on the bytes; the state after one meets what the next needs. -/
theorem inputSequenceIsFoldOfOnByte : Obligations.InputSequenceIsFoldOfOnByte := by
  intro bs
  induction bs with
  | nil =>
    intro f s hi hq hs ht _
    exact ⟨0, s, rfl, hi, hq, ht, hs, (List.append_nil _).symm, (List.append_nil _).symm⟩
  | cons b bs ih =>
    intro f s hi hq hs ht hw
    obtain ⟨t, hst, h⟩ := runSteps_deliver hi hq hs (.inr ht) (patient_whenReady bs) hw
    obtain ⟨n, u, htu, hiu, hqu, hut, hsu, htx, hspi⟩ := ih _ t h.inv h.quiescent h.stage h.turns h.txWait
    refine ⟨_, u, runSteps_append hst htu, hiu, hqu, hut, hsu, ?_, ?_⟩
    · rw [htx, h.txLog, List.append_assoc]
      rfl
    · rw [hspi, h.spiLog, List.append_assoc]
      rfl

/-- Settles O46: MAIN's phase fits the stage, so the step completes; a reset empties FAULT, and of the moves the overrun
alone adds to it. -/
theorem onlyOverrunCanStopTheBlock : Obligations.OnlyOverrunCanStopTheBlock := by
  intro s hi hf
  obtain ⟨t, h⟩ := step_completes hf (mainStep_completes (stageFits_of_inv hi))
  refine ⟨t, h, ?_⟩
  by_cases hr : ∃ ok, s.env.turns.head? = some (.reset ok)
  · obtain ⟨ok, hr⟩ := hr
    obtain ⟨e, rfl⟩ := step_next_reset h hr
    cases ok <;> exact .inl rfl
  · obtain ⟨u, e, hm, rfl⟩ := step_next h (not_exists.1 hr)
    obtain hu | ⟨rfl, hb, hq⟩ := move_fault hm hi
    · exact .inl (hu.trans hf)
    · refine .inr ⟨?_, hb, hq⟩
      show addReason .rxOverrun s.fault = _
      rw [hf]
      rfl

/-- Settles O53: by induction on the steps; the bus is at rest, so neither agent has one. -/
theorem quiescentWaitsForEver : Obligations.QuiescentWaitsForEver := by
  intro s n hi hq ht
  rw [runSteps_idle (engineEnabled_of_rest (busAtRest_of_quiescent hi hq).shcnt) hq ht, aged, ht]

/-- Settles O20: ISR's step. -/
theorem interruptEchoesStoresWakes : Obligations.InterruptEchoesStoresWakes :=
  fun _ _ _ hq hw ht => ⟨_, step_interrupt hq hw ht, rfl⟩

/-- Settles O22: in HALTED a delivery drops its turn and does nothing else. -/
theorem byteInHaltedIsIgnored : Obligations.ByteInHaltedIsIgnored := by
  intro s b rest ht hp
  have hd : deliverByte b s = dropTurn s := if_pos hp
  have hs : turnStep s = .next (dropTurn s) := by simp only [turnStep, ht, hd]
  refine ⟨aged 1 (dropTurn s).env, ?_, congrArg List.tail ht⟩
  rw [step, machineStep, hs]
  rfl

/-- Settles O23: MAIN's wake, as the block's own move and as a scheduled turn. -/
theorem stepRunsDecodedByte : Obligations.StepRunsDecodedByte := by
  intro s f i bytes hf hp hr hs hd
  have hmain := mainStep_wake hp hr hs
  rw [decodeByte_of_decode hd] at hmain
  constructor
  · intro ht he
    rw [step_of_main ht hf he, hmain]
  · intro rest ht
    simp only [step, machineStep, turnStep, ht, unlessFaulted, if_pos hf, hmain]

/-- Settles O24: the decoder gives a class of the stage's format, which completes and leaves AWAIT1. -/
theorem wakeConsumesOneByte : Obligations.WakeConsumesOneByte := by
  rintro s f ⟨ht, hf, he⟩ hp hr hs
  have hx : exec (decodeByte f s.lrb) { s with rxp := false } = .next (afterClass _ { s with rxp := false }) :=
    exec_of_stage (by rw [instrFormat_decodeByte]; exact hs)
  exact ⟨_, _, hx, psAfter_stage_ne_await1 _ _, step_wake (blockMoves_of_no_turns hf ht) he hp hr hs⟩

/-- Settles O25: every index below 21 has its prompt byte. -/
theorem promptSendsNextByte : Obligations.PromptSendsNextByte := by
  rintro s ⟨ht, hf, he⟩ hp hi hw
  obtain ⟨b, hb, hread⟩ := promptRead_ok hi
  exact ⟨b, _, hread, step_promptByte (blockMoves_of_no_turns hf ht) he hp hi hb hw⟩

/-- Settles O26: the step at index 21. -/
theorem promptEndRestartsParser : Obligations.PromptEndRestartsParser := by
  rintro s ⟨ht, hf, he⟩ hp hi
  exact ⟨_, step_promptEnd (blockMoves_of_no_turns hf ht) he hp hi⟩

/-- Settles O27: one step for each stage. -/
theorem dispatchFollowsStage : Obligations.DispatchFollowsStage := by
  rintro s ⟨ht, hf, he⟩ hp
  have hm := blockMoves_of_no_turns hf ht
  refine ⟨fun hs => ⟨_, step_toIdle hm he hp hs⟩, fun hs => ⟨_, step_toApply hm he hp hs⟩,
    fun hs => ⟨_, step_toMessage hm he hp hs⟩, fun hs => ?_⟩
  rw [step_of_main ht hf he, mainStep_dispatch_await1 hp hs]
  rfl

/-- Settles O28: every index below 21 has its message byte, and at 21 the message is over. -/
theorem invalidArmSendsMessage : Obligations.InvalidArmSendsMessage := by
  rintro s ⟨ht, hf, he⟩ hp
  have hm := blockMoves_of_no_turns hf ht
  refine ⟨fun hi hw => ?_, fun hi => ⟨_, step_messageEnd hm he hp hi⟩⟩
  obtain ⟨b, -, hread⟩ := invalidMsgRead_ok hi
  exact ⟨b, _, hread, step_messageByte hm he hp hi hread hw⟩

/-- Settles O29: ISR's echo and MAIN's string bytes each wait. -/
theorem sendWaitsForTheBuffer : Obligations.SendWaitsForTheBuffer := by
  intro s hw
  constructor
  · intro b rest hq ht
    rw [step, machineStep, turnStep_echo_waits hq hw ht]
    rfl
  · rintro ⟨ht, hf, he⟩ hp hi
    exact step_main (blockMoves_of_no_turns hf ht) he (mainStep_waits_for_buffer hp hi hw)

end Sys2Proof.Machine
end

section
/-! The statements of the family 60_exceptions. -/

namespace Sys2Proof.Machine

/-- Settles O19: a step that is no reset is a move and time passing, and a halted block has no move. -/
theorem haltedStaysSilent : Obligations.HaltedStaysSilent := by
  intro s hp hf hr
  have hmain : ∃ u, mainStep s = .next u := mainStep_completes (by rw [hp]; rfl)
  obtain ⟨t, h⟩ := step_completes hf hmain
  obtain ⟨u, e, hm, rfl⟩ := step_next h hr
  rw [move_of_halted hm hp] at h
  exact ⟨e, h⟩

/-- Settles O21: outside HALTED a delivery to a block that is not quiescent raises RxOverrun and drops its turn. -/
theorem byteWhileBusyOverruns : Obligations.ByteWhileBusyOverruns := by
  intro s b rest ht hq hn
  have hd : deliverByte b s = dropTurn (raise .rxOverrun s) := by simp [deliverByte, hn, hq]
  have hs : turnStep s = .next (dropTurn (raise .rxOverrun s)) := by simp only [turnStep, ht, hd]
  refine ⟨aged 1 (dropTurn s).env, ?_, congrArg List.tail ht⟩
  rw [step, machineStep, hs]
  rfl

end Sys2Proof.Machine
end

section
/-! SUPPORT. The shared rules of the family 70_reset_and_hazards: a step of a reset, what a step does to the schedule,
and the parts of a run. -/

namespace Sys2Proof.Machine

variable {s t : State}

/-- `Reset` happens whatever the state (R190, R203), and its turn is over then. -/
theorem step_reset {ok : Bool} {rest : List Turn} (ht : s.env.turns = .reset ok :: rest) :
    step s = .next ((resetEvent ok s).setEnv (aged 1 { s.env with turns := rest })) := by
  have hs : turnStep s = .next (dropTurn (resetEvent ok s)) := by simp only [turnStep, ht]
  have hr : s.env.turns.tail = rest := by rw [ht]; rfl
  rw [step, machineStep, hs, ← hr]
  cases ok <;> rfl

theorem mainMove_keeps_env (h : MainMove s t) : t.env = s.env := by cases h <;> rfl

/-- A move changes the block alone, not the model's own fields. -/
theorem move_keeps_env (h : Move s t) : t.env = s.env := by
  cases h
  case main _ hm => exact mainMove_keeps_env hm
  case waits | interrupt | overrun | engine => rfl

theorem deliverByte_turns_suffix (b : Byte) (s : State) : (deliverByte b s).env.turns <:+ s.env.turns := by
  have hdrop : s.env.turns.tail <:+ s.env.turns := List.tail_suffix _
  unfold deliverByte
  split_ifs
  exacts [hdrop, hdrop, List.suffix_rfl, hdrop]

theorem turnStep_turns_suffix (h : turnStep s = .next t) : t.env.turns <:+ s.env.turns := by
  have hblock (h : blockStep s = .next t) : t.env.turns <:+ s.env.turns := by
    rw [move_keeps_env (blockStep_next h)]
  have hdrop : s.env.turns.tail <:+ s.env.turns := List.tail_suffix _
  unfold turnStep at h
  split at h
  · exact hblock h
  · cases h
    exact deliverByte_turns_suffix ..
  · split at h
    · cases h
      exact deliverByte_turns_suffix ..
    · exact hblock h
  · rename_i ok _ _
    cases h
    cases ok <;> exact hdrop
  · cases h
    exact hdrop
  · obtain ⟨u, hu, rfl⟩ := mapNext_eq_next.1 h
    obtain ⟨-, hu⟩ := unlessFaulted_eq_next.1 hu
    show u.env.turns.tail <:+ _
    rw [mainMove_keeps_env (mainStep_next hu)]
    exact hdrop
  · obtain ⟨u, hu, rfl⟩ := mapNext_eq_next.1 h
    obtain ⟨-, hu⟩ := unlessFaulted_eq_next.1 hu
    cases hu
    show (engineStep s).env.turns.tail <:+ _
    rw [engineStep]
    split <;> exact hdrop

/-- A step takes the first turn of the schedule or none. -/
theorem step_turns_suffix (h : step s = .next t) : t.env.turns <:+ s.env.turns := by
  obtain ⟨u, hu, rfl⟩ := mapNext_eq_next.1 (show mapNext tick (turnStep s) = .next t from h)
  exact turnStep_turns_suffix (t := u) hu

theorem runSteps_keeps_no_turns {n : Nat} (ht : s.env.turns = []) (h : runSteps n s = .next t) : t.env.turns = [] :=
  runSteps_keeps (P := fun s => s.env.turns = [])
    (fun _ _ hs h => List.suffix_nil.1 (hs ▸ step_turns_suffix h)) h ht

/-- A run that completes had every earlier state. -/
theorem runSteps_add_eq_next {m n : Nat} (h : runSteps (m + n) s = .next t) :
    ∃ u, runSteps m s = .next u ∧ runSteps n u = .next t := by
  induction m generalizing s with
  | zero => exact ⟨s, rfl, by rwa [Nat.zero_add] at h⟩
  | succ m ih =>
    rw [Nat.succ_add] at h
    obtain ⟨u, hs, hu⟩ := runSteps_succ_eq_next h
    obtain ⟨v, hv, hvt⟩ := ih hu
    exact ⟨v, runSteps_cons hs hv, hvt⟩

/-- From a state in which every step completes and keeps what made it so, every run completes. -/
theorem runSteps_completes {P : State → Prop} (hP : ∀ s, P s → ∃ t, step s = .next t ∧ P t) (n : Nat) (hs : P s) :
    ∃ t, runSteps n s = .next t ∧ P t := by
  induction n generalizing s with
  | zero => exact ⟨s, rfl, hs⟩
  | succ n ih =>
    obtain ⟨u, hu, hPu⟩ := hP s hs
    obtain ⟨t, ht, hPt⟩ := ih hPu
    exact ⟨t, runSteps_cons hu ht, hPt⟩

end Sys2Proof.Machine
end

section
/-! A failed reset is for good (R191, 60_exceptions R178). -/

namespace Sys2Proof.Machine

variable {s : State}

/-- The block is halted, has sent nothing, and no reset is to come. -/
structure HaltedForGood (s : State) : Prop where
  phase : s.seq.phase = .halted
  silent : HaltedInv s
  noReset : ∀ ok, .reset ok ∉ s.env.turns

theorem haltedForGood_step (h : HaltedForGood s) : ∃ t, step s = .next t ∧ HaltedForGood t := by
  obtain ⟨hp, hsil, hr⟩ := h
  obtain ⟨-, -, hf⟩ := id hsil
  obtain ⟨e, he⟩ := haltedStaysSilent s hp hf fun ok hok => hr ok (List.mem_of_mem_head? hok)
  exact ⟨_, he, hp, hsil, fun ok hok => hr ok ((step_turns_suffix he).mem hok)⟩

end Sys2Proof.Machine
end

section
/-! The block is busy up to the counted step (R202): a quiescent block to which no byte comes stays so, and one step
before the count it is not. -/

namespace Sys2Proof.Machine

variable {s t : State}

/-- The state after `n` steps, all of which complete, is not quiescent. -/
def BusyAfter (n : Nat) (s : State) : Prop := ∃ t, runSteps n s = .next t ∧ quiescent t = false

theorem busyAfter_append {m n : Nat} (h : runSteps m s = .next t) (hb : BusyAfter n t) : BusyAfter (m + n) s := by
  obtain ⟨u, hu, hq⟩ := hb
  exact ⟨u, runSteps_append h hu, hq⟩

theorem busyAfter_cons {n : Nat} (h : step s = .next t) (hb : BusyAfter n t) : BusyAfter (n + 1) s := by
  rw [Nat.add_comm]
  exact busyAfter_append (runSteps_cons h rfl) hb

/-- With no byte to come, a block that is busy later was busy all the time. -/
theorem busyAfter_of_le {k n : Nat} (hi : Inv s) (ht : s.env.turns = []) (hb : BusyAfter n s) (hk : k ≤ n) :
    BusyAfter k s := by
  obtain ⟨m, rfl⟩ := Nat.exists_eq_add_of_le hk
  obtain ⟨v, hv, hbusy⟩ := hb
  obtain ⟨u, hu, huv⟩ := runSteps_add_eq_next hv
  refine ⟨u, hu, Bool.eq_false_iff.2 fun hq => ?_⟩
  have hiu : Inv u := runSteps_keeps (fun _ _ => step_keeps_inv) hu hi
  rw [quiescentWaitsForEver u m hiu hq (runSteps_keeps_no_turns ht hu)] at huv
  cases huv
  exact absurd hq (Bool.eq_false_iff.1 hbusy)

/-- A prompt is busy up to its last step. -/
theorem busyAfter_prompt (hf : s.fault = FaultSet.empty) (ht : Patient s.env.turns) (he : engineEnabled s = false)
    (h0 : s.seq = ⟨.prompt, 0⟩) (hw : s.env.txWait = 0) : BusyAfter 21 s :=
  ⟨_, runSteps_promptedTo 21 hf ht he h0 hw, rfl⟩

/-- A woken block is busy up to the last step of the count, to which the ISR step before the wake belongs too. -/
theorem busyAfter_woken {f : Format} {b : Byte} (hf : s.fault = FaultSet.empty) (ht : Patient s.env.turns)
    (hb : BusAtRest s) (hp : s.seq.phase = .idle) (hr : s.rxp = true) (hl : s.lrb = b)
    (hs : s.ps.stage = formatStage f) (hw : s.env.txWait = 0) : BusyAfter (stepsFor f b - 2) s := by
  subst hl
  have he : engineEnabled s = false := engineEnabled_of_rest hb.shcnt
  have hwake := step_wake (blockMoves_of_busy hf ht (by simp [quiescent, hr])) he hp hr hs
  have hw2 := aged_txWait 1 (aged_txWait 1 hw)
  obtain ⟨v, cb, hps, hcb, hon⟩ | ⟨hps, hon⟩ | ⟨hps, hon⟩ := byteOutcome f s.lrb s.ps <;> rw [hps] at hwake
  · have hn : stepsFor f s.lrb - 2 = 41 := by rw [stepsFor, hon]; rfl
    rw [hn]
    refine busyAfter_cons hwake ?_
    refine busyAfter_cons (step_toApply (blockMoves_of_busy hf ht rfl) (engineEnabled_of_rest hb.shcnt) rfl rfl) ?_
    refine busyAfter_append (m := 18) (n := 21) (runSteps_apply (blockMoves_of_busy hf ht rfl) rfl rfl hcb
      ⟨hb.csn, hb.loop, hb.eng, hb.done, hb.shcnt⟩) ?_
    exact busyAfter_prompt hf ht (engineEnabled_of_rest hb.shcnt) rfl (aged_txWait 18 hw2)
  · have hn : stepsFor f s.lrb - 2 = 1 := by rw [stepsFor, hon]; rfl
    rw [hn]
    exact busyAfter_cons hwake ⟨_, rfl, rfl⟩
  · have hn : stepsFor f s.lrb - 2 = 45 := by rw [stepsFor, hon]; rfl
    rw [hn]
    refine busyAfter_cons hwake ?_
    refine busyAfter_cons (step_toMessage (blockMoves_of_busy hf ht rfl) (engineEnabled_of_rest hb.shcnt) rfl rfl) ?_
    refine busyAfter_append (m := 22) (n := 21) (runSteps_message hf ht hb.shcnt rfl hw2) ?_
    exact busyAfter_prompt hf ht (engineEnabled_of_rest hb.shcnt) rfl (aged_txWait 22 hw2)

end Sys2Proof.Machine
end

section
/-! The statements of the family 70_reset_and_hazards. -/

namespace Sys2Proof.Machine

/-- Settles O18: the failed reset halts the block, and from then on every step completes and leaves it halted and
silent. -/
theorem failedResetHalts : Obligations.FailedResetHalts := by
  intro s rest n ht hr
  have hhalt : HaltedForGood ((resetEvent false s).setEnv (aged 1 { s.env with turns := rest })) :=
    ⟨rfl, ⟨rfl, rfl, rfl⟩, hr⟩
  obtain ⟨t, hrun, hp, ⟨htx, hspi, -⟩, -⟩ := runSteps_completes (fun _ => haltedForGood_step) n hhalt
  exact ⟨t, runSteps_cons (step_reset ht) hrun, hp, htx, hspi⟩

/-- Settles O41: the ISR step leaves no byte to come, so the block, busy one step before the count, was busy ever
since. -/
theorem busyUntilTheCountedStep : Obligations.BusyUntilTheCountedStep := by
  intro f b s k hi hq hs ht hw h0 hk
  obtain ⟨hp, -, hf⟩ := quiescent_iff.1 hq
  obtain ⟨hcsn, hloop, heng, hdone, h8⟩ := busAtRest_of_quiescent hi hq
  obtain ⟨k, rfl⟩ := Nat.exists_eq_add_one.2 h0
  have hecho := step_interrupt hq hw (.inl ht)
  refine busyAfter_cons hecho (busyAfter_of_le (step_keeps_inv hi hecho) rfl ?_ (show k ≤ stepsFor f b - 2 by omega))
  exact busyAfter_woken hf (.inl rfl) ⟨hcsn, hloop, heng, hdone, h8⟩ hp rfl rfl hs
    (aged_txWait 1 hw)

/-- Settles O52: the run of a whole prompt. -/
theorem promptInTwentyTwoSteps : Obligations.PromptInTwentyTwoSteps := by
  rintro s ⟨ht, hf, he⟩ h0 hw
  rw [runSteps_prompt hf (.inl ht) he h0 hw, aged, ht, hw]

/-- Settles O17: a reset's step ends in `State.reset` or `haltedState`, up to the model's own fields. -/
theorem resetGivesResetValues : Obligations.ResetGivesResetValues := by
  have hreset : ResetValues State.reset := by and_intros <;> rfl
  exact ⟨fun _ _ ht => ⟨_, step_reset ht, hreset⟩, fun _ _ ht => ⟨_, step_reset ht, rfl, rfl, rfl⟩, hreset⟩

end Sys2Proof.Machine
end
